-- ==== Sys2Proof/Word.lean ====
section
/-! DEFINITION. The word types of the block: the byte of R11 and the 16-bit word of R8 (CRC accumulator, ROM entry). -/

namespace Sys2Proof

/-- A byte, an unsigned 8-bit value (R11). -/
abbrev Byte := BitVec 8

/-- A 16-bit word: a ROM entry, the CRC accumulator and the CRC result (R8). -/
abbrev Word := BitVec 16

end Sys2Proof
end

