-- ==== Sys2Proof/Syntax.lean ====
section
/-! DEFINITION. Requests and responses at the block's interface: the five operations (R60), the request record as it is
sent (R62), the field identifiers (R67) and the error taxonomy (R200). -/

namespace Sys2Proof

/-- The geolocation operands that F-LOC and F-ALM share (R62, R150). Integers are mathematical integers and the two
coordinates are exact rationals (R12). -/
structure GeoOperands where
  year : Int
  month : Int
  day : Int
  hour : Int
  minute : Int
  second : Int
  latDeg : Rat
  lonDeg : Rat
  speed : Int
  courseStatus : Int
  mcc : Int
  mnc : Int
  lac : Int
  cellId : Int
  deriving DecidableEq, Repr

/-- The operation set (R60, R62): one constructor per row of the opcode table. -/
inductive Instr where
  /-- Selector `0x01`, format F-LOGIN (R151). -/
  | buildLogin (identity : List Byte) (modelCode tzH100 language serial : Int)
  /-- Selector `0x13`, format F-HB (R154). -/
  | buildHeartbeat (terminalStatus : Int) (volts : Rat) (battery signal languagePort serial : Int)
  /-- Selector `0x22`, format F-LOC (R152). -/
  | buildLocation (geo : GeoOperands) (acc uploadMode reupload odometer serial : Int)
  /-- Selector `0x26`, format F-ALM (R153). -/
  | buildAlarm (geo : GeoOperands) (terminalStatus battery signal alarmLanguage odometer serial : Int)
  /-- Selector `0xC0`, format F-CHK (R100). -/
  | checksum (span : List Byte)
  deriving DecidableEq, Repr

/-- One operand value of a request record: the three operand types of R62. -/
inductive Operand where
  | int (v : Int)
  | rat (q : Rat)
  | bytes (bs : List Byte)
  deriving DecidableEq, Repr

/-- A request as the host sends it (R62): the 8-bit selector and the operand record, its values in format order
(R77; 95_test_vectors.md section 3 writes requests so; log 1, DEDUCED). -/
structure Request where
  op : Byte
  operands : List Operand
  deriving DecidableEq, Repr

/-- The field identifiers that `FieldOutOfRange` reports (R67 and the "field id" columns of R70 to R73). -/
inductive FieldId where
  | identity | modelCode | tzH100 | language | serial
  | year | month | day | hour | minute | second | satellites | latitude | longitude
  | speed | courseStatus | mcc | mnc | lac | cellId
  | acc | uploadMode | reupload | odometer
  | terminalStatus | battery | signal | alarmLanguage
  | voltage | languagePort
  deriving DecidableEq, Repr

/-- The identifier of a field as the spec spells it (R67). -/
def FieldId.name : FieldId → String
  | .identity => "identity" | .modelCode => "model_code" | .tzH100 => "tz_h100" | .language => "language"
  | .serial => "serial" | .year => "year" | .month => "month" | .day => "day" | .hour => "hour" | .minute => "minute"
  | .second => "second" | .satellites => "satellites" | .latitude => "latitude" | .longitude => "longitude"
  | .speed => "speed" | .courseStatus => "course_status" | .mcc => "mcc" | .mnc => "mnc" | .lac => "lac"
  | .cellId => "cell_id" | .acc => "acc" | .uploadMode => "upload_mode" | .reupload => "reupload"
  | .odometer => "odometer" | .terminalStatus => "terminal_status" | .battery => "battery" | .signal => "signal"
  | .alarmLanguage => "alarm_language" | .voltage => "voltage" | .languagePort => "language_port"

/-- The error a request can end with (R200). An error is a response, not a stop (R208). -/
inductive Error where
  /-- Code 1 (R201). -/
  | invalidIdentity
  /-- Code 2: the failing field and the inclusive bounds of its accepted range (R202). -/
  | fieldOutOfRange (id : FieldId) (lo hi : Int)
  /-- Code 3: the length value that does not fit (R203). -/
  | frameTooLarge (length : Nat)
  /-- Code 5: the reserved selector (R206). -/
  | unsupportedOperation (op : Byte)
  deriving DecidableEq, Repr

/-- The one response of a request (R7, R200). -/
inductive Response where
  | ok (bytes : List Byte)
  | err (e : Error)
  deriving DecidableEq, Repr

end Sys2Proof
end

