-- ==== Sys2Proof/Decode.lean ====
section
/-! DEFINITION. The multiplexer's reading of a request record (R60 to R62, R155), the encoder, and the host's word for
an opcode-table row. -/

namespace Sys2Proof

/-- What the decoder makes of a request record. -/
inductive Decoded where
  /-- The selector is assigned and the record is of its format. -/
  | instr (i : Instr)
  /-- The selector is reserved (R61), whatever the operands are. -/
  | reserved (op : Byte)
  /-- The selector is assigned and the operand record is not of its format. R62's typed interface cannot present it (log 2,
  DESIGN CHOICE). -/
  | formatMismatch (op : Byte)
  deriving DecidableEq, Repr

/-- The request formats of R62. -/
inductive Format where
  | chk | login | loc | alm | hb
  deriving DecidableEq, Repr

/-- The selector map of R60. -/
def formatOf (op : Byte) : Option Format :=
  if op = 0x01#8 then some .login
  else if op = 0x13#8 then some .hb
  else if op = 0x22#8 then some .loc
  else if op = 0x26#8 then some .alm
  else if op = 0xC0#8 then some .chk
  else none

/-- Reads the geolocation operands off the front of a record, in the order of R62. -/
def readGeo : List Operand → Option (GeoOperands × List Operand)
  | .int year :: .int month :: .int day :: .int hour :: .int minute :: .int second :: .rat latDeg :: .rat lonDeg ::
      .int speed :: .int courseStatus :: .int mcc :: .int mnc :: .int lac :: .int cellId :: rest =>
    some ({ year, month, day, hour, minute, second, latDeg, lonDeg, speed, courseStatus, mcc, mnc, lac, cellId }, rest)
  | _ => none

/-- Reads an F-CHK record (R66). -/
def readChk : List Operand → Option Instr
  | [.bytes span] => some (.checksum span)
  | _ => none

/-- Reads an F-LOGIN record. -/
def readLogin : List Operand → Option Instr
  | [.bytes identity, .int modelCode, .int tzH100, .int language, .int serial] =>
    some (.buildLogin identity modelCode tzH100 language serial)
  | _ => none

/-- Reads an F-HB record. -/
def readHb : List Operand → Option Instr
  | [.int terminalStatus, .rat volts, .int battery, .int signal, .int languagePort, .int serial] =>
    some (.buildHeartbeat terminalStatus volts battery signal languagePort serial)
  | _ => none

/-- Reads an F-LOC record. -/
def readLoc (ops : List Operand) : Option Instr :=
  match readGeo ops with
  | some (geo, [.int acc, .int uploadMode, .int reupload, .int odometer, .int serial]) =>
    some (.buildLocation geo acc uploadMode reupload odometer serial)
  | _ => none

/-- Reads an F-ALM record. -/
def readAlm (ops : List Operand) : Option Instr :=
  match readGeo ops with
  | some (geo, [.int terminalStatus, .int battery, .int signal, .int alarmLanguage, .int odometer, .int serial]) =>
    some (.buildAlarm geo terminalStatus battery signal alarmLanguage odometer serial)
  | _ => none

/-- Reads a record of a format. -/
def readFormat : Format → List Operand → Option Instr
  | .chk => readChk
  | .login => readLogin
  | .loc => readLoc
  | .alm => readAlm
  | .hb => readHb

/-- The decoder, total on every selector and every operand record. The selector is looked at before any operand (R206). -/
def decode (r : Request) : Decoded :=
  match formatOf r.op with
  | none => .reserved r.op
  | some f =>
    match readFormat f r.operands with
    | none => .formatMismatch r.op
    | some i => .instr i

/-- The selector of an operation (R60), which for a build is also the frame's kind byte (R155). -/
def Instr.selector : Instr → Byte
  | .buildLogin _ _ _ _ _ => 0x01#8
  | .buildHeartbeat _ _ _ _ _ _ => 0x13#8
  | .buildLocation _ _ _ _ _ _ => 0x22#8
  | .buildAlarm _ _ _ _ _ _ _ => 0x26#8
  | .checksum _ => 0xC0#8

/-- The geolocation operands as a record's values, in the order of R62. -/
def GeoOperands.operands (g : GeoOperands) : List Operand :=
  [.int g.year, .int g.month, .int g.day, .int g.hour, .int g.minute, .int g.second, .rat g.latDeg, .rat g.lonDeg,
   .int g.speed, .int g.courseStatus, .int g.mcc, .int g.mnc, .int g.lac, .int g.cellId]

/-- The operand record of an operation, in the order of R62. -/
def Instr.operands : Instr → List Operand
  | .buildLogin identity modelCode tzH100 language serial =>
    [.bytes identity, .int modelCode, .int tzH100, .int language, .int serial]
  | .buildHeartbeat terminalStatus volts battery signal languagePort serial =>
    [.int terminalStatus, .rat volts, .int battery, .int signal, .int languagePort, .int serial]
  | .buildLocation geo acc uploadMode reupload odometer serial =>
    geo.operands ++ [.int acc, .int uploadMode, .int reupload, .int odometer, .int serial]
  | .buildAlarm geo terminalStatus battery signal alarmLanguage odometer serial =>
    geo.operands ++ [.int terminalStatus, .int battery, .int signal, .int alarmLanguage, .int odometer, .int serial]
  | .checksum span => [.bytes span]

/-- The encoder: the request a host sends for an operation (R62). -/
def encode (i : Instr) : Request := ⟨i.selector, i.operands⟩

/-- The mnemonic of an operation (R60, R77). -/
def Instr.mnemonic : Instr → String
  | .buildLogin _ _ _ _ _ => "BUILD_LOGIN"
  | .buildHeartbeat _ _ _ _ _ _ => "BUILD_HEARTBEAT"
  | .buildLocation _ _ _ _ _ _ => "BUILD_LOCATION"
  | .buildAlarm _ _ _ _ _ _ _ => "BUILD_ALARM"
  | .checksum _ => "CHECKSUM"

/-- The operand names of the shared geolocation block, in the order of R62. -/
def geoOperandNames : List String :=
  ["year", "month", "day", "hour", "minute", "second", "lat_deg", "lon_deg", "speed", "course_status", "mcc", "mnc",
   "lac", "cell_id"]

/-- The operand names of a format, in the order of its record (R62, R77; log 1). -/
def operandNames : Format → List String
  | .chk => ["span"]
  | .login => ["identity", "model_code", "tz_h100", "language", "serial"]
  | .loc => geoOperandNames ++ ["acc", "upload_mode", "reupload", "odometer", "serial"]
  | .alm => geoOperandNames ++ ["terminal_status", "battery", "signal", "alarm_language", "odometer", "serial"]
  | .hb => ["terminal_status", "volts", "battery", "signal", "language_port", "serial"]

/-- The record of a format with every operand at zero: integer 0, rational 0, the empty byte string (log 3, DESIGN CHOICE). -/
def zeroOperands : Format → List Operand
  | .chk => [.bytes []]
  | .login => [.bytes [], .int 0, .int 0, .int 0, .int 0]
  | .hb => [.int 0, .rat 0, .int 0, .int 0, .int 0, .int 0]
  | .loc =>
    [.int 0, .int 0, .int 0, .int 0, .int 0, .int 0, .rat 0, .rat 0, .int 0, .int 0, .int 0, .int 0, .int 0, .int 0,
     .int 0, .int 0, .int 0, .int 0, .int 0]
  | .alm =>
    [.int 0, .int 0, .int 0, .int 0, .int 0, .int 0, .rat 0, .rat 0, .int 0, .int 0, .int 0, .int 0, .int 0, .int 0,
     .int 0, .int 0, .int 0, .int 0, .int 0, .int 0]

/-- The request whose selector is the low `nbits` bits of `w` and whose operands are all zero (log 3, DESIGN CHOICE). The opcode table
gives a row its 8 selector bits and no operand bits. -/
def tableRequest (nbits w : Nat) : Request :=
  let op := BitVec.ofNat 8 (w % 2 ^ nbits)
  match formatOf op with
  | some f => ⟨op, zeroOperands f⟩
  | none => ⟨op, []⟩

/-- The instruction the decoder reads from an opcode-table row's bits: the selector `w`, every operand zero (log 3, DESIGN CHOICE). -/
def decodeTableWord (nbits w : Nat) : Option Instr :=
  if nbits = 8 ∧ w < 256 then
    match decode (tableRequest nbits w) with
    | .instr i => some i
    | .reserved _ => none
    | .formatMismatch _ => none
  else none

end Sys2Proof
end

