-- ==== Sys2Proof/Config.lean ====
section
/-! DEFINITION. What a realisation of the block fixes when it is built. -/

namespace Sys2Proof

/-- `P_SATELLITES` (R9): the satellite-count byte of the location and alarm payloads, an open parameter to which the
spec gives no number. It has no body, so nothing can be proved of its value. -/
opaque Config.pSatellites : Byte

end Sys2Proof
end

