-- ==== Sys2Proof/Machine/Hardwired.lean ====
section
/-! DEFINITION. What is hardwired (R24): the constants of the checksum and of the framing, and the contents of the table
ROM (R25, R103). -/

namespace Sys2Proof.Machine

/-- The CRC seed (R24, R100). -/
def crcSeed : Word := 0xFFFF#16

/-- The reflected polynomial (R24, R102). -/
def crcPolynomial : Word := 0x8408#16

/-- The final operation's mask: the complement is XOR with it (R24, R104). -/
def crcFinalMask : Word := 0xFFFF#16

/-- The start marker `78 78` (R24, R64). -/
def startMarker : List Byte := [0x78#8, 0x78#8]

/-- The terminator `0D 0A` (R24, R64). -/
def terminator : List Byte := [0x0D#8, 0x0A#8]

/-- The kind byte of a login frame (R24). -/
def kindLogin : Byte := 0x01#8

/-- The kind byte of a heartbeat frame (R24). -/
def kindHeartbeat : Byte := 0x13#8

/-- The kind byte of a location frame (R24). -/
def kindLocation : Byte := 0x22#8

/-- The kind byte of an alarm frame (R24). -/
def kindAlarm : Byte := 0x26#8

/-- The length allowance for the checksum (R24, R131). -/
def checksumAllowance : Nat := 2

/-- The latitude and longitude scale (R24, R122). -/
def degreeScale : Nat := 1800000

/-- The voltage scale (R24, R123). -/
def voltScale : Nat := 100

/-- One bit-serial step of the reflected polynomial (R102, R106). -/
def bitStep (c : Word) : Word :=
  if c &&& 1#16 = 1#16 then (c >>> 1) ^^^ crcPolynomial else c >>> 1

/-- `n` bit-serial steps. -/
def bitSteps : Nat → Word → Word
  | 0, c => c
  | n + 1, c => bitSteps n (bitStep c)

/-- The table's definition: eight bit-serial steps from the index (R102). -/
def crcTableEntry (i : Byte) : Word := bitSteps 8 (i.setWidth 16)

/-- The listing of R103, indexes 0x00 to 0x3F. -/
def romListing0 : List Word :=
  [0x0000#16, 0x1189#16, 0x2312#16, 0x329B#16, 0x4624#16, 0x57AD#16, 0x6536#16, 0x74BF#16,
   0x8C48#16, 0x9DC1#16, 0xAF5A#16, 0xBED3#16, 0xCA6C#16, 0xDBE5#16, 0xE97E#16, 0xF8F7#16,
   0x1081#16, 0x0108#16, 0x3393#16, 0x221A#16, 0x56A5#16, 0x472C#16, 0x75B7#16, 0x643E#16,
   0x9CC9#16, 0x8D40#16, 0xBFDB#16, 0xAE52#16, 0xDAED#16, 0xCB64#16, 0xF9FF#16, 0xE876#16,
   0x2102#16, 0x308B#16, 0x0210#16, 0x1399#16, 0x6726#16, 0x76AF#16, 0x4434#16, 0x55BD#16,
   0xAD4A#16, 0xBCC3#16, 0x8E58#16, 0x9FD1#16, 0xEB6E#16, 0xFAE7#16, 0xC87C#16, 0xD9F5#16,
   0x3183#16, 0x200A#16, 0x1291#16, 0x0318#16, 0x77A7#16, 0x662E#16, 0x54B5#16, 0x453C#16,
   0xBDCB#16, 0xAC42#16, 0x9ED9#16, 0x8F50#16, 0xFBEF#16, 0xEA66#16, 0xD8FD#16, 0xC974#16]

/-- The listing of R103, indexes 0x40 to 0x7F. -/
def romListing1 : List Word :=
  [0x4204#16, 0x538D#16, 0x6116#16, 0x709F#16, 0x0420#16, 0x15A9#16, 0x2732#16, 0x36BB#16,
   0xCE4C#16, 0xDFC5#16, 0xED5E#16, 0xFCD7#16, 0x8868#16, 0x99E1#16, 0xAB7A#16, 0xBAF3#16,
   0x5285#16, 0x430C#16, 0x7197#16, 0x601E#16, 0x14A1#16, 0x0528#16, 0x37B3#16, 0x263A#16,
   0xDECD#16, 0xCF44#16, 0xFDDF#16, 0xEC56#16, 0x98E9#16, 0x8960#16, 0xBBFB#16, 0xAA72#16,
   0x6306#16, 0x728F#16, 0x4014#16, 0x519D#16, 0x2522#16, 0x34AB#16, 0x0630#16, 0x17B9#16,
   0xEF4E#16, 0xFEC7#16, 0xCC5C#16, 0xDDD5#16, 0xA96A#16, 0xB8E3#16, 0x8A78#16, 0x9BF1#16,
   0x7387#16, 0x620E#16, 0x5095#16, 0x411C#16, 0x35A3#16, 0x242A#16, 0x16B1#16, 0x0738#16,
   0xFFCF#16, 0xEE46#16, 0xDCDD#16, 0xCD54#16, 0xB9EB#16, 0xA862#16, 0x9AF9#16, 0x8B70#16]

/-- The listing of R103, indexes 0x80 to 0xBF. -/
def romListing2 : List Word :=
  [0x8408#16, 0x9581#16, 0xA71A#16, 0xB693#16, 0xC22C#16, 0xD3A5#16, 0xE13E#16, 0xF0B7#16,
   0x0840#16, 0x19C9#16, 0x2B52#16, 0x3ADB#16, 0x4E64#16, 0x5FED#16, 0x6D76#16, 0x7CFF#16,
   0x9489#16, 0x8500#16, 0xB79B#16, 0xA612#16, 0xD2AD#16, 0xC324#16, 0xF1BF#16, 0xE036#16,
   0x18C1#16, 0x0948#16, 0x3BD3#16, 0x2A5A#16, 0x5EE5#16, 0x4F6C#16, 0x7DF7#16, 0x6C7E#16,
   0xA50A#16, 0xB483#16, 0x8618#16, 0x9791#16, 0xE32E#16, 0xF2A7#16, 0xC03C#16, 0xD1B5#16,
   0x2942#16, 0x38CB#16, 0x0A50#16, 0x1BD9#16, 0x6F66#16, 0x7EEF#16, 0x4C74#16, 0x5DFD#16,
   0xB58B#16, 0xA402#16, 0x9699#16, 0x8710#16, 0xF3AF#16, 0xE226#16, 0xD0BD#16, 0xC134#16,
   0x39C3#16, 0x284A#16, 0x1AD1#16, 0x0B58#16, 0x7FE7#16, 0x6E6E#16, 0x5CF5#16, 0x4D7C#16]

/-- The listing of R103, indexes 0xC0 to 0xFF. -/
def romListing3 : List Word :=
  [0xC60C#16, 0xD785#16, 0xE51E#16, 0xF497#16, 0x8028#16, 0x91A1#16, 0xA33A#16, 0xB2B3#16,
   0x4A44#16, 0x5BCD#16, 0x6956#16, 0x78DF#16, 0x0C60#16, 0x1DE9#16, 0x2F72#16, 0x3EFB#16,
   0xD68D#16, 0xC704#16, 0xF59F#16, 0xE416#16, 0x90A9#16, 0x8120#16, 0xB3BB#16, 0xA232#16,
   0x5AC5#16, 0x4B4C#16, 0x79D7#16, 0x685E#16, 0x1CE1#16, 0x0D68#16, 0x3FF3#16, 0x2E7A#16,
   0xE70E#16, 0xF687#16, 0xC41C#16, 0xD595#16, 0xA12A#16, 0xB0A3#16, 0x8238#16, 0x93B1#16,
   0x6B46#16, 0x7ACF#16, 0x4854#16, 0x59DD#16, 0x2D62#16, 0x3CEB#16, 0x0E70#16, 0x1FF9#16,
   0xF78F#16, 0xE606#16, 0xD49D#16, 0xC514#16, 0xB1AB#16, 0xA022#16, 0x92B9#16, 0x8330#16,
   0x7BC7#16, 0x6A4E#16, 0x58D5#16, 0x495C#16, 0x3DE3#16, 0x2C6A#16, 0x1EF1#16, 0x0F78#16]

/-- The table ROM's contents, as R103 lists them: 256 entries of 16 bits. -/
def romTable : Vector Word 256 :=
  ⟨(romListing0 ++ (romListing1 ++ (romListing2 ++ romListing3))).toArray, by
    simp only [List.size_toArray, List.length_append]; decide⟩

/-- `ROM[i]`, the block's only memory read (R11, R40). Every 8-bit index is in range (R47). -/
def romRead (rom : Vector Word 256) (i : Byte) : Word := rom[i.toNat]'i.isLt

end Sys2Proof.Machine
end

