-- ==== Sys2Proof/Machine/State.lean ====
section
/-! DEFINITION. The block's state (R20, R23, R230), the parameters it was built with (R9, R10, R216), the host's events
and the responses returned to it, the reasons a step stops, and the state right after reset. -/

namespace Sys2Proof.Machine

/-- What a realisation fixes when it is built; reset does not change it (R230). -/
structure Params where
  /-- `P_SATELLITES` (R9). -/
  satellites : Byte
  /-- `P_MAX_SPAN` of a realisation that bounds the CHECKSUM span; `none` where the span is unbounded (R10, D14). -/
  maxSpan : Option Nat
  /-- Whether the realisation offers the observability hook (R216). -/
  hook : Bool
  deriving DecidableEq, Repr

/-- The response status, the block's only flag (R23). -/
inductive Status where
  | ok
  | err (e : Error)
  deriving DecidableEq, Repr

/-- What the host does to the block, in the order it does it (R214, R230). -/
inductive HostEvent where
  /-- Sends a request. -/
  | request (r : Request)
  /-- Resets the block. -/
  | reset
  deriving DecidableEq, Repr

/-- What the observability hook receives: copies, which nothing reads back (R216). Which copies is log 6 (DESIGN CHOICE:
the spec leaves the contents open, I11). -/
inductive HookEvent where
  /-- At a frame-build boundary: the build request and its response. -/
  | frameBuild (i : Instr) (response : Response)
  /-- The checksum engine's diagnostic log of its input. -/
  | checksumInput (bs : List Byte)
  deriving DecidableEq, Repr

/-- The state of the block. A transient field is `none` while the spec gives it no value (R20, R230, I3). -/
structure State where
  /-- The table ROM (R25). -/
  rom : Vector Word 256
  /-- The CRC accumulator `C` (R26). -/
  c : Option Word
  /-- The response buffer `OUT` (R27). -/
  out : Option (List Byte)
  /-- The operand latch `REQ` (R29). -/
  req : Option Request
  /-- The response status: the last response's, `none` when none is pending after reset (R23, R230; log 12, DEDUCED). -/
  status : Option Status
  /-- The parameters of the realisation (R9, R10, R216). -/
  params : Params
  /-- The hook's event stream, oldest first (R216). -/
  trace : List HookEvent
  /-- The model's own: the host's events still to come, oldest first (log 7, DESIGN CHOICE). -/
  inbox : List HostEvent
  /-- The model's own: the responses returned so far, oldest first (log 8, DESIGN CHOICE). -/
  responses : List Response
  deriving DecidableEq, Repr

/-- A transient piece of state, which has a value only inside a request or a computation (R20). -/
inductive Transient where
  | c | out | req
  deriving DecidableEq, Repr

/-- Why the machine stops with a fault. -/
inductive Fault where
  /-- `C`, `OUT` or `REQ` was read while it has no value (R230, I3). Raised by the operations of Machine/Ops.lean that
  read them. Safe: the model stops and makes up no value. No step raises it. -/
  | noValue (t : Transient)
  deriving DecidableEq, Repr

/-- Why a request is refused. -/
inductive Refusal where
  /-- An instruction of the table that has no meaning in the model. Safe. No arm of `exec` answers with it. -/
  | notModelled (mnemonic : String)
  /-- The selector is assigned and the operand record is not of its format, which R62's typed interface cannot present
  (log 2, DESIGN CHOICE). Raised by `step`. Safe. -/
  | operandMismatch (op : Byte)
  /-- A realisation that bounds the CHECKSUM span refuses a longer one (R10, I5; log 5). Raised by `execChecksum`. Safe. -/
  | spanTooLong (length bound : Nat)
  deriving DecidableEq, Repr

/-- The outcome of a step. -/
abbrev Result := Host.Outcome State Fault Refusal

/-- The block right after reset (R230, R231): the ROM full, no request in progress, no response pending. The parameters
are those it was built with: `P_SATELLITES` open (log 4), the span unbounded (log 5, D14), no hook (log 6, DESIGN
CHOICE). The model's own queues are empty (logs 7 and 8, DESIGN CHOICE). -/
def State.reset : State where
  rom := romTable
  c := none
  out := none
  req := none
  status := none
  params := { satellites := Config.pSatellites, maxSpan := none, hook := false }
  trace := []
  inbox := []
  responses := []

end Sys2Proof.Machine
end

