-- ==== Sys2Proof/Machine/Flags.lean ====
section
/-! DEFINITION. The response status (R23), the block's only flag, and its numeric code (R200). -/

namespace Sys2Proof.Machine

/-- The status a response has (R23). -/
def statusOf : Response → Status
  | .ok _ => .ok
  | .err e => .err e

/-- The numeric code of an error (R200). Code 4 is the verdict `ChecksumMismatch`, which no request ends with. -/
def errorCode : Error → Nat
  | .invalidIdentity => 1
  | .fieldOutOfRange _ _ _ => 2
  | .frameTooLarge _ => 3
  | .unsupportedOperation _ => 5

/-- The numeric code of a status, for a realisation that returns a status word (R200, D3). -/
def statusCode : Status → Nat
  | .ok => 0
  | .err e => errorCode e

end Sys2Proof.Machine
end

