-- ==== Sys2Proof/Machine/Operands.lean ====
section
/-! DEFINITION. How every operand becomes bytes (R75): the big-endian encoding (R11, R41) and the field encoders of
R121 to R130. An encoder answers the field's bytes or the error it raises. -/

namespace Sys2Proof.Machine

/-- `be_n(v)`, the `n`-byte big-endian encoding (R11): byte `k` is `(v >> 8(n-1-k)) & 0xFF`. -/
def be : Nat → Nat → List Byte
  | 0, _ => []
  | n + 1, v => BitVec.ofNat 8 (v >>> (8 * n)) :: be n v

/-- `trunc(q)` rounds a rational toward zero (R11). -/
def trunc (q : Rat) : Int := q.num.tdiv q.den

/-- `trunc(q × scale)`, the product exact: the numerator is scaled and the quotient by the denominator rounds toward zero
(R122, R123, D5). -/
def truncScaled (q : Rat) (scale : Nat) : Int := (q.num * scale).tdiv q.den

/-- The greatest value of an unsigned field of `w` bytes. -/
def uintMax (w : Nat) : Nat := 2 ^ (8 * w) - 1

/-- Raises `FieldOutOfRange(id, lo, hi)` when `v` is outside `lo..hi` (R202). -/
def checkRange (id : FieldId) (lo hi v : Int) : Except Error Unit :=
  if v < lo ∨ v > hi then .error (.fieldOutOfRange id lo hi) else .ok ()

/-- `uint_w(id, v)`, an unsigned field of `w` bytes, neither wrapped nor saturated (R121). -/
def uintField (w : Nat) (id : FieldId) (v : Int) : Except Error (List Byte) := do
  checkRange id 0 (uintMax w) v
  return be w v.toNat

/-- `fix_lat(id, q)`, a latitude or longitude: degrees × 1,800,000, truncated, in 4 bytes (R122). -/
def fixLat (id : FieldId) (q : Rat) : Except Error (List Byte) :=
  uintField 4 id (truncScaled q degreeScale)

/-- `fix_volt(q)`, the external voltage: volts × 100, truncated, in 2 bytes (R123). A voltage above -0.01 and below 0
truncates to 0 and is accepted, though R154 says of negative voltages that they fail (log 20, DEDUCED). -/
def fixVolt (q : Rat) : Except Error (List Byte) :=
  uintField 2 .voltage (truncScaled q voltScale)

/-- An ASCII decimal digit, `0x30`..`0x39` (R124). -/
def isDigit (ch : Byte) : Bool := 0x30 ≤ ch.toNat && ch.toNat ≤ 0x39

/-- The identity's syntax check: non-empty, and every byte an ASCII digit, of any length (R124). -/
def checkIdentity (identity : List Byte) : Except Error Unit :=
  if identity ≠ [] ∧ identity.all isDigit then .ok () else .error .invalidIdentity

/-- The identity's value, kept mod 2^64 at every digit (R125). -/
def identityValue (identity : List Byte) : Nat :=
  identity.foldl (fun v ch => (10 * v + (ch.toNat - 0x30)) % 2 ^ 64) 0

/-- `ident(identity)`, the identity in 8 bytes (R124, R125). -/
def identField (identity : List Byte) : Except Error (List Byte) := do
  checkIdentity identity
  return be 8 (identityValue identity)

/-- The packed word of R126: the time zone mod 4096 in bits 15..4, the language in bits 3..0. -/
def tzlangWord (tzH100 language : Int) : Nat :=
  ((tzH100 % 4096).toNat <<< 4) ||| language.toNat

/-- `tzlang(tz_h100, language)`: the time zone is checked first (R126). -/
def tzlang (tzH100 language : Int) : Except Error (List Byte) := do
  checkRange .tzH100 (-2048) 4095 tzH100
  checkRange .language 0 15 language
  return be 2 (tzlangWord tzH100 language)

/-- `cell3(cell_id)`: the 4-byte value without its most significant byte (R127). -/
def cell3 (cellId : Int) : Except Error (List Byte) := do
  let b4 ← uintField 4 .cellId cellId
  return b4.drop 1

/-- `sat()`: the satellite-count byte, which cannot fail (R129). -/
def sat (satellites : Byte) : List Byte := [satellites]

/-- `ser(serial)` (R130). -/
def serialField (serial : Int) : Except Error (List Byte) := uintField 2 .serial serial

end Sys2Proof.Machine
end

