-- ==== Sys2Proof/Machine/Ops.lean ====
section
/-! DEFINITION. The named operations over the state: accepting a request and resetting, the CRC engine on `C`, the
writes of `OUT`, and the two ways a request ends: `respond` with the buffer, `raise` with an error. -/

namespace Sys2Proof.Machine

/-- The ROM holds the table of R103. Nothing writes the ROM (R25, R52), and it is the only memory that outlives a request
(R20), so this is the whole well-formedness of memory. -/
abbrev Memory.wf (s : State) : Prop := s.rom = romTable

/-- Records an event if the realisation offers the hook (R216; log 6, DESIGN CHOICE). -/
def observe (e : HookEvent) (s : State) : State :=
  if s.params.hook then { s with trace := s.trace ++ [e] } else s

/-! ### The host's side -/

/-- The host sends a request, after those it has already sent (R214; the queue is the model's own, log 7, DESIGN
CHOICE). -/
def send (r : Request) (s : State) : State := { s with inbox := s.inbox ++ [.request r] }

/-- Accepts a request: the operands are latched, and read as they then stand (R29, R238). The status is written only when
the request ends (R23). -/
def accept (r : Request) (s : State) : State := { s with req := some r }

/-- Reset: a request in progress is dropped without a response, no response is pending, and the ROM and the parameters
are unchanged (R230, R231, I4). What the host has sent and received is the host's and stays (log 11, DEDUCED). -/
def applyReset (s : State) : State := { s with c := none, out := none, req := none, status := none }

/-- The operands of the request in progress (R29). Reading them outside a request faults (I3). -/
def readRequest (s : State) : Except Fault Request :=
  match s.req with
  | some r => .ok r
  | none => .error (.noValue .req)

/-! ### The checksum engine -/

/-- The CRC step: one byte into the accumulator, by one ROM read (R101). -/
def crcStep (rom : Vector Word 256) (c : Word) (b : Byte) : Word :=
  (c >>> 8) ^^^ romRead rom (((c ^^^ b.setWidth 16) &&& 0xFF#16).setWidth 8)

/-- Starts a computation: `C` is the seed (R26, R232). -/
def crcStart (s : State) : State := { s with c := some crcSeed }

/-- Reads `C`. Outside a computation it has no value (I3). -/
def readC (s : State) : Except Fault Word :=
  match s.c with
  | some c => .ok c
  | none => .error (.noValue .c)

/-- Consumes one byte into `C` (R26, R101). -/
def crcByte (b : Byte) (s : State) : Except Fault State := do
  let c ← readC s
  return { s with c := some (crcStep s.rom c b) }

/-- Consumes bytes in ascending order (R54). -/
def crcBytes : List Byte → State → Except Fault State
  | [], s => .ok s
  | b :: bs, s => do
    let s ← crcByte b s
    crcBytes bs s

/-- Ends a computation: the result is the complement of `C`, and `C` has no value any more (R26, R104). -/
def crcFinish (s : State) : Except Fault (Word × State) := do
  let c ← readC s
  return (c ^^^ crcFinalMask, { s with c := none })

/-- `CRC(bs)` on the machine's own accumulator (R100), with the engine's optional diagnostic log of its input (R216). -/
def crcCompute (bs : List Byte) (s : State) : Except Fault (Word × State) := do
  let s ← crcBytes bs (crcStart (observe (.checksumInput bs) s))
  crcFinish s

/-- `CRC(bs)` as a function of a table (R100, R108). -/
def crcWith (rom : Vector Word 256) (bs : List Byte) : Word :=
  bs.foldl (crcStep rom) crcSeed ^^^ crcFinalMask

/-! ### The response buffer and the end of a request -/

/-- A request starts with `OUT` empty (R27, R232). -/
def startRequest (s : State) : State := { s with out := some [] }

/-- Reads `OUT`. Outside a request it has no value (I3). -/
def readOut (s : State) : Except Fault (List Byte) :=
  match s.out with
  | some bs => .ok bs
  | none => .error (.noValue .out)

/-- Appends one byte to `OUT` (R44). -/
def emitByte (b : Byte) (s : State) : Except Fault State := do
  let bs ← readOut s
  return { s with out := some (bs ++ [b]) }

/-- `emit(bs)` (R11): one byte at a time, in ascending order (R44, R54). -/
def emit : List Byte → State → Except Fault State
  | [], s => .ok s
  | b :: bs, s => do
    let s ← emitByte b s
    emit bs s

/-- The request ends: its one response is returned, the status is written once, and `C`, `OUT` and `REQ` have no value
any more, so the block is ready for the next request (R20, R23, R209, R240). -/
def finish (r : Response) (s : State) : State :=
  { s with c := none, out := none, req := none, status := some (statusOf r), responses := s.responses ++ [r] }

/-- The request ends without an error: `OUT` is returned whole (R27, R45). -/
def respond (s : State) : Except Fault State := do
  let bs ← readOut s
  return finish (.ok bs) s

/-- Taking an error: `OUT` is discarded and the response carries the error alone. Nothing is saved, no control is
transferred, and there is nothing to return from (R205, R208, R209). -/
def raise (e : Error) (s : State) : State := finish (.err e) s

/-- Emits the bytes of a successful request and returns them. -/
def reply (bs : List Byte) (s : State) : Except Fault State := do
  let s ← emit bs s
  respond s

/-- A computation of the machine as the outcome of a step. -/
def outcomeOf : Except Fault State → Result
  | .ok s => .next s
  | .error f => .fault f

end Sys2Proof.Machine
end

