-- ==== Sys2Proof/Machine/Build.lean ====
section
/-! DEFINITION. The Frame Builder: the payload serializers (R150 to R154), the shared framing algorithm (R120, R131 to
R134) and the four build operations. -/

namespace Sys2Proof.Machine

/-! ### Payload serializers -/

/-- The date-time bytes, with no calendar check (R128). -/
def dateTime (g : GeoOperands) : Except Error (List Byte) := do
  let year ← uintField 1 .year g.year
  let month ← uintField 1 .month g.month
  let day ← uintField 1 .day g.day
  let hour ← uintField 1 .hour g.hour
  let minute ← uintField 1 .minute g.minute
  let second ← uintField 1 .second g.second
  return year ++ month ++ day ++ hour ++ minute ++ second

/-- `geo(REQ)`, the shared geolocation block of 26 bytes, evaluated left to right (R150). -/
def geo (satellites : Byte) (g : GeoOperands) : Except Error (List Byte) := do
  let dateTime ← dateTime g
  let latitude ← fixLat .latitude g.latDeg
  let longitude ← fixLat .longitude g.lonDeg
  let speed ← uintField 1 .speed g.speed
  let courseStatus ← uintField 2 .courseStatus g.courseStatus
  let mcc ← uintField 2 .mcc g.mcc
  let mnc ← uintField 1 .mnc g.mnc
  let lac ← uintField 2 .lac g.lac
  let cellId ← cell3 g.cellId
  return dateTime ++ sat satellites ++ latitude ++ longitude ++ speed ++ courseStatus ++ mcc ++ mnc ++ lac ++ cellId

/-- `serialize_login(REQ)` (R151, R70). -/
def serializeLogin (identity : List Byte) (modelCode tzH100 language : Int) : Except Error (List Byte) := do
  let identity ← identField identity
  let modelCode ← uintField 2 .modelCode modelCode
  let tzLanguage ← tzlang tzH100 language
  return identity ++ modelCode ++ tzLanguage

/-- `serialize_location(REQ)` (R152, R71). -/
def serializeLocation (satellites : Byte) (g : GeoOperands) (acc uploadMode reupload odometer : Int) :
    Except Error (List Byte) := do
  let geo ← geo satellites g
  let acc ← uintField 1 .acc acc
  let uploadMode ← uintField 1 .uploadMode uploadMode
  let reupload ← uintField 1 .reupload reupload
  let odometer ← uintField 4 .odometer odometer
  return geo ++ acc ++ uploadMode ++ reupload ++ odometer

/-- `serialize_alarm(REQ)` (R153, R72). -/
def serializeAlarm (satellites : Byte) (g : GeoOperands) (terminalStatus battery signal alarmLanguage odometer : Int) :
    Except Error (List Byte) := do
  let geo ← geo satellites g
  let terminalStatus ← uintField 1 .terminalStatus terminalStatus
  let battery ← uintField 1 .battery battery
  let signal ← uintField 1 .signal signal
  let alarmLanguage ← uintField 2 .alarmLanguage alarmLanguage
  let odometer ← uintField 4 .odometer odometer
  return geo ++ terminalStatus ++ battery ++ signal ++ alarmLanguage ++ odometer

/-- `serialize_heartbeat(REQ)` (R154, R73). -/
def serializeHeartbeat (terminalStatus : Int) (volts : Rat) (battery signal languagePort : Int) :
    Except Error (List Byte) := do
  let terminalStatus ← uintField 1 .terminalStatus terminalStatus
  let voltage ← fixVolt volts
  let battery ← uintField 1 .battery battery
  let signal ← uintField 1 .signal signal
  let languagePort ← uintField 2 .languagePort languagePort
  return terminalStatus ++ voltage ++ battery ++ signal ++ languagePort

/-! ### The shared framing -/

/-- `frame_length(N)`: kind, payload, serial and checksum allowance; too large when the length byte cannot hold it
(R131, R203). -/
def frameLength (n : Nat) : Except Error Nat :=
  let length := 1 + n + 2 + checksumAllowance
  if length > 255 then .error (.frameTooLarge length) else .ok length

/-- Steps 1 to 3 of the framing algorithm: the payload's error first, then the serial's, then the length's; the region
is the length byte, the kind byte, the payload and the serial number (R120, R132, R207). -/
def frameRegion (kind : Byte) (payload : Except Error (List Byte)) (serial : Int) : Except Error (List Byte) := do
  let payload ← payload
  let serial ← serialField serial
  let length ← frameLength payload.length
  return [BitVec.ofNat 8 length, kind] ++ payload ++ serial

/-- The whole frame around a region and its checksum (R134). -/
def frameOf (region : List Byte) (checksum : Word) : List Byte :=
  startMarker ++ region ++ be 2 checksum.toNat ++ terminator

/-- Steps 4 and 5: the region's checksum, and the frame emitted whole (R120, R133, R134). The hook sees the request
and the response (R216). -/
def emitFrame (i : Instr) (region : List Byte) (s : State) : Except Fault State := do
  let (checksum, s) ← crcCompute region s
  let frame := frameOf region checksum
  let s ← reply frame s
  return observe (.frameBuild i (.ok frame)) s

/-- `BUILD(kind, REQ)` (R120). Every check runs before the first byte is emitted, so a failing request emits nothing
(R205). -/
def build (i : Instr) (kind : Byte) (payload : Except Error (List Byte)) (serial : Int) (s : State) : Result :=
  match frameRegion kind payload serial with
  | .error e => .next (observe (.frameBuild i (.err e)) (raise e s))
  | .ok region => outcomeOf (emitFrame i region s)

/-! ### The operations -/

/-- BUILD_LOGIN (R151). -/
def execBuildLogin (identity : List Byte) (modelCode tzH100 language serial : Int) (s : State) : Result :=
  build (.buildLogin identity modelCode tzH100 language serial) kindLogin
    (serializeLogin identity modelCode tzH100 language) serial (startRequest s)

/-- BUILD_HEARTBEAT (R154). -/
def execBuildHeartbeat (terminalStatus : Int) (volts : Rat) (battery signal languagePort serial : Int) (s : State) :
    Result :=
  build (.buildHeartbeat terminalStatus volts battery signal languagePort serial) kindHeartbeat
    (serializeHeartbeat terminalStatus volts battery signal languagePort) serial (startRequest s)

/-- BUILD_LOCATION (R152). -/
def execBuildLocation (g : GeoOperands) (acc uploadMode reupload odometer serial : Int) (s : State) : Result :=
  build (.buildLocation g acc uploadMode reupload odometer serial) kindLocation
    (serializeLocation s.params.satellites g acc uploadMode reupload odometer) serial (startRequest s)

/-- BUILD_ALARM (R153). -/
def execBuildAlarm (g : GeoOperands) (terminalStatus battery signal alarmLanguage odometer serial : Int) (s : State) :
    Result :=
  build (.buildAlarm g terminalStatus battery signal alarmLanguage odometer serial) kindAlarm
    (serializeAlarm s.params.satellites g terminalStatus battery signal alarmLanguage odometer) serial (startRequest s)

end Sys2Proof.Machine
end

