-- ==== Sys2Proof/Machine/Checksum.lean ====
section
/-! DEFINITION. The CHECKSUM operation (R100). -/

namespace Sys2Proof.Machine

/-- The length of a span that a bounded realisation refuses, with its bound (R10, I5). -/
def spanBoundExceeded (p : Params) (span : List Byte) : Option Nat :=
  match p.maxSpan with
  | none => none
  | some bound => if span.length > bound then some bound else none

/-- The 2-byte big-endian response of CHECKSUM (R41, R100). -/
def checksumReply (span : List Byte) (s : State) : Except Fault State := do
  let (v, s) ← crcCompute span s
  reply (be 2 v.toNat) s

/-- CHECKSUM accepts any span and cannot fail (R66, R100); a realisation that bounds the span refuses a longer one (R10). -/
def execChecksum (span : List Byte) (s : State) : Result :=
  match spanBoundExceeded s.params span with
  | some bound => .refused (.spanTooLong span.length bound)
  | none => outcomeOf (checksumReply span (startRequest s))

end Sys2Proof.Machine
end

