-- ==== Sys2Proof/Machine/Dispatch.lean ====
section
/-! DEFINITION. The multiplexer's other half (R155): one arm per operation, each a call of its meaning. -/

namespace Sys2Proof.Machine

/-- The meaning of each operation, for the operands of a request (R155). -/
def exec (i : Instr) (s : State) : Host.Outcome State Fault Refusal :=
  match i with
  | .buildLogin identity modelCode tzH100 language serial => Sys2Proof.Machine.execBuildLogin identity modelCode tzH100 language serial s
  | .buildHeartbeat terminalStatus volts battery signal languagePort serial => Sys2Proof.Machine.execBuildHeartbeat terminalStatus volts battery signal languagePort serial s
  | .buildLocation geo acc uploadMode reupload odometer serial => Sys2Proof.Machine.execBuildLocation geo acc uploadMode reupload odometer serial s
  | .buildAlarm geo terminalStatus battery signal alarmLanguage odometer serial => Sys2Proof.Machine.execBuildAlarm geo terminalStatus battery signal alarmLanguage odometer serial s
  | .checksum span => Sys2Proof.Machine.execChecksum span s

end Sys2Proof.Machine
end

