-- ==== Sys2Proof/Machine/Step.lean ====
section
/-! DEFINITION. One step of the block: answer one request (R7, R22, R239), or take a reset. -/

namespace Sys2Proof.Machine

/-- The state with the next request accepted, if there is one: the request already in progress, or else the next one
the host sends. -/
def acceptNext (s : State) : Option State :=
  match s.req, s.inbox with
  | some _, _ => some s
  | none, .request r :: rest => some (accept r { s with inbox := rest })
  | none, .reset :: _ => none
  | none, [] => none

/-- Answers the request in progress (R60, R155): a reserved selector with `UnsupportedOperation`, before any operand is
looked at (R61, R206); an assigned one with its operation. -/
def answer (s : State) : Result :=
  match readRequest s with
  | .error f => .fault f
  | .ok r =>
    match decode r with
    | .instr i => exec i s
    | .reserved op => .next (raise (.unsupportedOperation op) s)
    | .formatMismatch op => .refused (.operandMismatch op)

/-- One step. A reset that has arrived comes first and drops a request in progress (R230); otherwise the next request is
accepted and answered in this one step; with nothing to do the block waits, ready for a request (R231; log 10, DESIGN CHOICE). -/
def step (s : State) : Host.Outcome State Fault Refusal :=
  match s.inbox with
  | .reset :: rest => .next (applyReset { s with inbox := rest })
  | _ =>
    match acceptNext s with
    | some s' => answer s'
    | none => .next s

/-- The state with an opcode-table row's request (`tableRequest`, log 3) as the next one the host sends, and no other in
progress: the next step accepts and answers it (log 7, DESIGN CHOICE). -/
def State.withFetchWord (s : State) (nbits w : Nat) : State :=
  { s with req := none, inbox := .request (tableRequest nbits w) :: s.inbox }

end Sys2Proof.Machine
end

