-- ==== Sys2Proof/Machine/Receiver.lean ====
section
/-! DEFINITION. The receiver-side reference functions (R180 to R183): the frame check, the decoder, the canonical form
of a request and the acknowledgement's kind. They are test oracles, not operations of the block. -/

namespace Sys2Proof.Machine

/-- `bs[a:b]`, the indexes `a` to `b - 1` (R11). -/
def slice (bs : List Byte) (a b : Nat) : List Byte := (bs.drop a).take (b - a)

/-- An unsigned big-endian integer (R181). -/
def fromBe (bs : List Byte) : Nat := bs.foldl (fun v b => 256 * v + b.toNat) 0

/-- `CRC` with the block's own table (R100). -/
def crc (bs : List Byte) : Word := crcWith romTable bs

/-- The verdict of the frame check (R180). -/
inductive Verdict where
  | frameOk
  | malformedFrame
  | checksumMismatch
  deriving DecidableEq, Repr

/-- The code R200 gives `ChecksumMismatch`, the one verdict of its table. -/
def verdictCode : Verdict → Option Nat
  | .checksumMismatch => some 4
  | .frameOk => none
  | .malformedFrame => none

/-- `frame_check(f)`, its tests in order (R180). -/
def frameCheck (f : List Byte) : Verdict :=
  if f.length < 10 then .malformedFrame
  else if slice f 0 2 ≠ startMarker then .malformedFrame
  else if slice f (f.length - 2) f.length ≠ terminator then .malformedFrame
  else if (f.getD 2 0).toNat ≠ f.length - 5 then .malformedFrame
  else if (crc (slice f 2 (f.length - 4))).toNat ≠ fromBe (slice f (f.length - 4) (f.length - 2)) then .checksumMismatch
  else .frameOk

/-- The geolocation fields of a decoded frame, raw (R181). -/
structure GeoFields where
  year : Nat
  month : Nat
  day : Nat
  hour : Nat
  minute : Nat
  second : Nat
  satellites : Nat
  latUnits : Nat
  lonUnits : Nat
  speed : Nat
  courseStatus : Nat
  mcc : Nat
  mnc : Nat
  lac : Nat
  cell24 : Nat
  deriving DecidableEq, Repr

/-- A decoded frame: each field as an unsigned integer of its width (R181). -/
inductive FrameFields where
  | login (identityValue modelCode tz12 language serial : Nat)
  | heartbeat (terminalStatus voltUnits battery signal languagePort serial : Nat)
  | location (geo : GeoFields) (acc uploadMode reupload odometer serial : Nat)
  | alarm (geo : GeoFields) (terminalStatus battery signal alarmLanguage odometer serial : Nat)
  deriving DecidableEq, Repr

/-- The unsigned big-endian field of `size` bytes at a frame offset (R181). -/
def fieldAt (f : List Byte) (offset size : Nat) : Nat := fromBe (slice f offset (offset + size))

/-- The geolocation fields, at frame offsets 4 to 29 (R71, R72). -/
def decodeGeo (f : List Byte) : GeoFields where
  year := fieldAt f 4 1
  month := fieldAt f 5 1
  day := fieldAt f 6 1
  hour := fieldAt f 7 1
  minute := fieldAt f 8 1
  second := fieldAt f 9 1
  satellites := fieldAt f 10 1
  latUnits := fieldAt f 11 4
  lonUnits := fieldAt f 15 4
  speed := fieldAt f 19 1
  courseStatus := fieldAt f 20 2
  mcc := fieldAt f 22 2
  mnc := fieldAt f 24 1
  lac := fieldAt f 25 2
  cell24 := fieldAt f 27 3

/-- The fields of a login frame (R70). -/
def decodeLogin (f : List Byte) : FrameFields :=
  .login (fieldAt f 4 8) (fieldAt f 12 2) (fieldAt f 14 2 >>> 4) (fieldAt f 14 2 &&& 0xF) (fieldAt f 16 2)

/-- The fields of a heartbeat frame (R73). -/
def decodeHeartbeat (f : List Byte) : FrameFields :=
  .heartbeat (fieldAt f 4 1) (fieldAt f 5 2) (fieldAt f 7 1) (fieldAt f 8 1) (fieldAt f 9 2) (fieldAt f 11 2)

/-- The fields of a location frame (R71). -/
def decodeLocation (f : List Byte) : FrameFields :=
  .location (decodeGeo f) (fieldAt f 30 1) (fieldAt f 31 1) (fieldAt f 32 1) (fieldAt f 33 4) (fieldAt f 37 2)

/-- The fields of an alarm frame (R72). -/
def decodeAlarm (f : List Byte) : FrameFields :=
  .alarm (decodeGeo f) (fieldAt f 30 1) (fieldAt f 31 1) (fieldAt f 32 1) (fieldAt f 33 2) (fieldAt f 35 4) (fieldAt f 39 2)

/-- `decode(f)` (R181); `none` is `Undecodable`. Outside its stated domain, where `frame_check` does not answer
`FrameOK`, it is `none` too (log 14, DESIGN CHOICE). -/
def decodeFrame (f : List Byte) : Option FrameFields :=
  if frameCheck f ≠ .frameOk then none
  else if f.getD 3 0 = kindLogin ∧ f.length = 22 then some (decodeLogin f)
  else if f.getD 3 0 = kindLocation ∧ f.length = 43 then some (decodeLocation f)
  else if f.getD 3 0 = kindAlarm ∧ f.length = 45 then some (decodeAlarm f)
  else if f.getD 3 0 = kindHeartbeat ∧ f.length = 17 then some (decodeHeartbeat f)
  else none

/-- The decimal value of a digit string (R125's D). On any other string its value is the model's (log 19, DESIGN CHOICE). -/
def decimalValue (identity : List Byte) : Nat := identity.foldl (fun v ch => 10 * v + (ch.toNat - 0x30)) 0

/-- The canonical geolocation operands (R182), for operands that are accepted (log 19, DESIGN CHOICE, outside them). -/
def canonGeo (satellites : Byte) (g : GeoOperands) : GeoFields where
  year := g.year.toNat
  month := g.month.toNat
  day := g.day.toNat
  hour := g.hour.toNat
  minute := g.minute.toNat
  second := g.second.toNat
  satellites := satellites.toNat
  latUnits := (trunc (g.latDeg * 1800000)).toNat
  lonUnits := (trunc (g.lonDeg * 1800000)).toNat
  speed := g.speed.toNat
  courseStatus := g.courseStatus.toNat
  mcc := g.mcc.toNat
  mnc := g.mnc.toNat
  lac := g.lac.toNat
  cell24 := (g.cellId % 2 ^ 24).toNat

/-- `canon(r)`, each operand mapped to its encoded value (R182), for a build request that succeeds. R182 gives no value
for a build that fails nor for CHECKSUM, which builds no frame: the value on a failing build (a negative operand becomes
0, a byte that is no digit still counts) and `none` for CHECKSUM are the model's (log 19, DESIGN CHOICE). -/
def canon (satellites : Byte) : Instr → Option FrameFields
  | .buildLogin identity modelCode tzH100 language serial =>
    some (.login (decimalValue identity % 2 ^ 64) modelCode.toNat (tzH100 % 4096).toNat language.toNat serial.toNat)
  | .buildHeartbeat terminalStatus volts battery signal languagePort serial =>
    some (.heartbeat terminalStatus.toNat (trunc (volts * 100)).toNat battery.toNat signal.toNat languagePort.toNat
      serial.toNat)
  | .buildLocation g acc uploadMode reupload odometer serial =>
    some (.location (canonGeo satellites g) acc.toNat uploadMode.toNat reupload.toNat odometer.toNat serial.toNat)
  | .buildAlarm g terminalStatus battery signal alarmLanguage odometer serial =>
    some (.alarm (canonGeo satellites g) terminalStatus.toNat battery.toNat signal.toNat alarmLanguage.toNat
      odometer.toNat serial.toNat)
  | .checksum _ => none

/-- `ack_kind(resp)`: the byte at index 3 of a response to a login frame, if it has one (R183). -/
def ackKind (resp : List Byte) : Option Byte := resp[3]?

end Sys2Proof.Machine
end

