-- ==== Sys2Proof/WellFormed.lean ====
section
/-! DEFINITION. Which requests are well formed: every operand in the "accepted operand" column of R70 to R73.
Written from those tables, apart from the encoders of Machine/Operands.lean, so that claims can hold the two against
each other. A request that is not well formed is still a request: the block answers it with `firstError`. -/

namespace Sys2Proof

/-- One row of the payload tables: the field, the inclusive bounds it is reported with, and whether the operand is accepted. -/
structure FieldCheck where
  id : FieldId
  lo : Int
  hi : Int
  accepted : Bool
  deriving DecidableEq, Repr

/-- The row of an integer operand accepted in `lo..hi`. -/
def FieldCheck.int (id : FieldId) (lo hi v : Int) : FieldCheck :=
  ⟨id, lo, hi, decide (lo ≤ v) && decide (v ≤ hi)⟩

/-- The row of a fixed-point operand: `trunc(q × scale)` lies in `0..hi` exactly when `-1 < q × scale < hi + 1`,
since `trunc` rounds toward zero (R11; D5). -/
def FieldCheck.scaled (id : FieldId) (scale : Nat) (hi : Nat) (q : Rat) : FieldCheck :=
  ⟨id, 0, hi, decide (-(q.den : Int) < q.num * scale) && decide (q.num * scale < (hi + 1) * (q.den : Int))⟩

/-- The serial number's row, in every build format (R63). -/
def FieldCheck.serial (v : Int) : FieldCheck := .int .serial 0 65535 v

/-- The rows of R71 at payload offsets 0 to 25, which R72 repeats. -/
def GeoOperands.checks (g : GeoOperands) : List FieldCheck :=
  [.int .year 0 255 g.year, .int .month 0 255 g.month, .int .day 0 255 g.day,
   .int .hour 0 255 g.hour, .int .minute 0 255 g.minute, .int .second 0 255 g.second,
   .scaled .latitude 1800000 4294967295 g.latDeg, .scaled .longitude 1800000 4294967295 g.lonDeg,
   .int .speed 0 255 g.speed, .int .courseStatus 0 65535 g.courseStatus, .int .mcc 0 65535 g.mcc,
   .int .mnc 0 255 g.mnc, .int .lac 0 65535 g.lac, .int .cellId 0 4294967295 g.cellId]

/-- The rows of a request in the order R207 checks them: the payload fields in layout order, then the serial number. -/
def Instr.checks : Instr → List FieldCheck
  | .buildLogin _ modelCode tzH100 language serial =>
    [.int .modelCode 0 65535 modelCode, .int .tzH100 (-2048) 4095 tzH100, .int .language 0 15 language, .serial serial]
  | .buildHeartbeat terminalStatus volts battery signal languagePort serial =>
    [.int .terminalStatus 0 255 terminalStatus, .scaled .voltage 100 65535 volts, .int .battery 0 255 battery,
     .int .signal 0 255 signal, .int .languagePort 0 65535 languagePort, .serial serial]
  | .buildLocation geo acc uploadMode reupload odometer serial =>
    geo.checks ++ [.int .acc 0 255 acc, .int .uploadMode 0 255 uploadMode, .int .reupload 0 255 reupload,
      .int .odometer 0 4294967295 odometer, .serial serial]
  | .buildAlarm geo terminalStatus battery signal alarmLanguage odometer serial =>
    geo.checks ++ [.int .terminalStatus 0 255 terminalStatus, .int .battery 0 255 battery, .int .signal 0 255 signal,
      .int .alarmLanguage 0 65535 alarmLanguage, .int .odometer 0 4294967295 odometer, .serial serial]
  | .checksum _ => []

/-- Whether the identity operand, where the format has one, is a non-empty string of ASCII digits (R70, R124). -/
def Instr.identityAccepted : Instr → Bool
  | .buildLogin identity _ _ _ _ => !identity.isEmpty && identity.all fun ch => 0x30#8 ≤ ch && ch ≤ 0x39#8
  | .buildHeartbeat _ _ _ _ _ _ => true
  | .buildLocation _ _ _ _ _ _ => true
  | .buildAlarm _ _ _ _ _ _ _ => true
  | .checksum _ => true

/-- The error of the first row that does not accept its operand. -/
def firstOutOfRange : List FieldCheck → Option Error
  | [] => none
  | row :: rows => if row.accepted then firstOutOfRange rows else some (.fieldOutOfRange row.id row.lo row.hi)

/-- The one error a request with an assigned selector reports, if any (R207): the identity first, then the first field
out of range in layout order, then the serial number. `FrameTooLarge` cannot occur (R137). -/
def Instr.firstError (i : Instr) : Option Error :=
  if i.identityAccepted then firstOutOfRange i.checks else some .invalidIdentity

/-- A request every operand of which is accepted. -/
def Instr.wellFormed (i : Instr) : Bool := i.firstError.isNone

end Sys2Proof
end

