-- ==== Sys2Proof/Safety.lean ====
section
/-! DEFINITION. The terms claims are stated in: how a request ends, what a build's frame is made of, which responses the
block can return, and the invariant of the machine. -/

namespace Sys2Proof.Machine

/-- No request is in progress: `C`, `OUT` and `REQ` have no value (R20, R230). -/
def Idle (s : State) : Prop := s.c = none ∧ s.out = none ∧ s.req = none

/-- From `s` the block answers with `r` in `t`, and everything else is as the spec says (the frame of every operation):
exactly one response is returned and the status is written from it (R23, R240); `C`, `OUT` and `REQ` have no value any
more (R20, R209); the ROM, the parameters and the host's events are unchanged (R25, R230). The hook's trace is left to
`TraceAfter`. -/
structure Answers (s t : State) (r : Response) : Prop where
  responses : t.responses = s.responses ++ [r]
  status : t.status = some (statusOf r)
  c : t.c = none
  out : t.out = none
  req : t.req = none
  rom : t.rom = s.rom
  params : t.params = s.params
  inbox : t.inbox = s.inbox

/-- The trace grows by these events where the realisation offers the hook, and does not change where it does not (R216,
log 6). -/
def TraceAfter (s t : State) (events : List HookEvent) : Prop :=
  t.trace = if s.params.hook then s.trace ++ events else s.trace

/-- `execution` of a request at `s` ends with the response `r`. -/
def EndsWith (s : State) (execution : Result) (r : Response) : Prop :=
  ∃ t, execution = .next t ∧ Answers s t r

/-- The four build operations; CHECKSUM is the other one (R2). -/
def isBuild : Instr → Bool
  | .buildLogin _ _ _ _ _ => true
  | .buildHeartbeat _ _ _ _ _ _ => true
  | .buildLocation _ _ _ _ _ _ => true
  | .buildAlarm _ _ _ _ _ _ _ => true
  | .checksum _ => false

/-- The same request with another serial number; CHECKSUM has none (R63). -/
def withSerial (serial : Int) : Instr → Instr
  | .buildLogin identity modelCode tzH100 language _ => .buildLogin identity modelCode tzH100 language serial
  | .buildHeartbeat terminalStatus volts battery signal languagePort _ =>
    .buildHeartbeat terminalStatus volts battery signal languagePort serial
  | .buildLocation g acc uploadMode reupload odometer _ => .buildLocation g acc uploadMode reupload odometer serial
  | .buildAlarm g terminalStatus battery signal alarmLanguage odometer _ =>
    .buildAlarm g terminalStatus battery signal alarmLanguage odometer serial
  | .checksum span => .checksum span

/-- The payload length N of a kind (R74); CHECKSUM has no payload. -/
def payloadLength : Instr → Nat
  | .buildLogin _ _ _ _ _ => 12
  | .buildHeartbeat _ _ _ _ _ _ => 7
  | .buildLocation _ _ _ _ _ _ => 33
  | .buildAlarm _ _ _ _ _ _ _ => 35
  | .checksum _ => 0

/-- Whether a realisation accepts a span of this length (R10): always, unless it bounds the span. -/
def SpanAccepted (p : Params) (length : Nat) : Prop := ∀ bound, p.maxSpan = some bound → length ≤ bound

/-- The events of a successful build where the hook is offered: the region the checksum engine reads, then the request
with its frame (R216, log 6). -/
def frameEvents (i : Instr) (f : List Byte) : List HookEvent :=
  [.checksumInput (slice f 2 (f.length - 4)), .frameBuild i (.ok f)]

/-- The frame R64 lays out, around the bytes of its payload and its serial number, with a given table. -/
def frameLayout (rom : Vector Word 256) (kind : Byte) (payload : List Byte) (serial : Nat) : List Byte :=
  let region := BitVec.ofNat 8 (payload.length + 5) :: kind :: (payload ++ be 2 serial)
  [0x78#8, 0x78#8] ++ region ++ be 2 (crcWith rom region).toNat ++ [0x0D#8, 0x0A#8]

/-- The login payload of R70, its fields at their offsets. -/
def loginPayload (identity : List Byte) (modelCode tzH100 language : Int) : List Byte :=
  be 8 (decimalValue identity % 2 ^ 64) ++ be 2 modelCode.toNat
    ++ be 2 ((tzH100 % 4096).toNat * 16 + language.toNat)

/-- The geolocation bytes of R71 at payload offsets 0 to 25. -/
def geoPayload (satellites : Byte) (g : GeoOperands) : List Byte :=
  be 1 g.year.toNat ++ be 1 g.month.toNat ++ be 1 g.day.toNat ++ be 1 g.hour.toNat ++ be 1 g.minute.toNat
    ++ be 1 g.second.toNat ++ [satellites]
    ++ be 4 (trunc (g.latDeg * 1800000)).toNat ++ be 4 (trunc (g.lonDeg * 1800000)).toNat
    ++ be 1 g.speed.toNat ++ be 2 g.courseStatus.toNat ++ be 2 g.mcc.toNat ++ be 1 g.mnc.toNat ++ be 2 g.lac.toNat
    ++ be 3 (g.cellId % 2 ^ 24).toNat

/-- The location payload of R71. -/
def locationPayload (satellites : Byte) (g : GeoOperands) (acc uploadMode reupload odometer : Int) : List Byte :=
  geoPayload satellites g ++ be 1 acc.toNat ++ be 1 uploadMode.toNat ++ be 1 reupload.toNat ++ be 4 odometer.toNat

/-- The alarm payload of R72. -/
def alarmPayload (satellites : Byte) (g : GeoOperands) (terminalStatus battery signal alarmLanguage odometer : Int) :
    List Byte :=
  geoPayload satellites g ++ be 1 terminalStatus.toNat ++ be 1 battery.toNat ++ be 1 signal.toNat
    ++ be 2 alarmLanguage.toNat ++ be 4 odometer.toNat

/-- The heartbeat payload of R73. -/
def heartbeatPayload (terminalStatus : Int) (volts : Rat) (battery signal languagePort : Int) : List Byte :=
  be 1 terminalStatus.toNat ++ be 2 (trunc (volts * 100)).toNat ++ be 1 battery.toNat ++ be 1 signal.toNat
    ++ be 2 languagePort.toNat

/-- The bounds `FieldOutOfRange` reports for a field (R70 to R73, R202); the satellites byte never fails (R68), and the
identity fails as `InvalidIdentity` (R201). -/
def reportedBounds : FieldId → Option (Int × Int)
  | .identity | .satellites => none
  | .modelCode | .serial | .courseStatus | .mcc | .lac | .alarmLanguage | .voltage | .languagePort => some (0, 65535)
  | .tzH100 => some (-2048, 4095)
  | .language => some (0, 15)
  | .year | .month | .day | .hour | .minute | .second | .speed | .mnc | .acc | .uploadMode | .reupload
  | .terminalStatus | .battery | .signal => some (0, 255)
  | .latitude | .longitude | .cellId | .odometer => some (0, 4294967295)

/-- The kind bytes and the frame lengths that go with them (R74). -/
def kindAndLength (f : List Byte) : Prop :=
  (f.getD 3 0 = kindLogin ∧ f.length = 22) ∨ (f.getD 3 0 = kindLocation ∧ f.length = 43)
    ∨ (f.getD 3 0 = kindAlarm ∧ f.length = 45) ∨ (f.getD 3 0 = kindHeartbeat ∧ f.length = 17)

/-- The responses the block can return (R76, R78, R137, R200): a 2-byte checksum; a frame of one of the four kinds that
passes the receiver's check; an error with its own information, and `FrameTooLarge` never. -/
def LegalResponse : Response → Prop
  | .ok bs => bs.length = 2 ∨ (frameCheck bs = .frameOk ∧ kindAndLength bs)
  | .err .invalidIdentity => True
  | .err (.fieldOutOfRange id lo hi) => reportedBounds id = some (lo, hi)
  | .err (.frameTooLarge _) => False
  | .err (.unsupportedOperation op) => formatOf op = none

/-- The machine's invariant: the ROM holds the table (R25); outside a computation and a request `C` and `OUT` have no
value (R20); every response returned so far is legal; a status that is pending is the last response's (R23). -/
structure MachineInvariant (s : State) : Prop where
  rom : Memory.wf s
  c : s.c = none
  out : s.out = none
  responses : ∀ r ∈ s.responses, LegalResponse r
  status : ∀ st, s.status = some st → s.responses.getLast?.map statusOf = some st

/-- The block fresh from reset, with a given table and given parameters, and one request sent to it. -/
def aloneWith (rom : Vector Word 256) (params : Params) (r : Request) : State :=
  { State.reset with rom := rom, params := params, inbox := [.request r] }

/-- The response a request gets when it is the only one the block ever sees, if the step answers it (R30, R50). -/
def responseAlone (rom : Vector Word 256) (params : Params) (r : Request) : Option Response :=
  match step (aloneWith rom params r) with
  | .next t => t.responses.getLast?
  | .fault _ => none
  | .refused _ => none

end Sys2Proof.Machine
end

