-- ==== Sys2Proof/Certificates/Slice0/Obligations.lean ====
section
/-! DEFINITION. The statements for the provers. Each docstring says which rule of spec/ the statement formalises. The
vocabulary (`Answers`, `EndsWith`, `TraceAfter`, `MachineInvariant`, the payloads) is in Safety.lean; `wellFormed` and `firstError`
are in WellFormed.lean, written from the tables of R70 to R73 and apart from the encoders. -/

open Sys2Proof Sys2Proof.Machine

/-! ### The checksum engine -/

/-- R103: the ROM after reset is the listed table, and every entry of it is the one the polynomial's definition gives
(R102). -/
def Obligations.RomEntriesAreThePolynomialTable : Prop :=
  State.reset.rom = romTable ∧ (∀ i : Byte, romRead romTable i = crcTableEntry i) ∧
    romRead romTable 0x00#8 = 0x0000#16 ∧ romRead romTable 0x01#8 = 0x1189#16 ∧
    romRead romTable 0x80#8 = 0x8408#16 ∧ romRead romTable 0xFF#8 = 0x0F78#16

/-- R106: the table-driven step equals eight bit-serial steps applied to `C XOR b`. -/
def Obligations.CrcStepEqualsEightBitSerialSteps : Prop :=
  ∀ (c : Word) (b : Byte), crcStep romTable c b =
    bitStep (bitStep (bitStep (bitStep (bitStep (bitStep (bitStep (bitStep (c ^^^ b.setWidth 16))))))))

/-- R100, with R101 and R104 written out: CHECKSUM on any accepted span answers the two bytes, high byte first, of the
complement of the accumulator that starts at the seed and takes `(C >> 8) XOR ROM[(C XOR b) & 0xFF]` for each byte in
ascending order. The rest of the state is unchanged but for the status and the hook's trace; what the trace holds
(`TraceAfter`) is the model's (log 6, DESIGN CHOICE). -/
def Obligations.ChecksumAnswersCrcOfSpan : Prop :=
  ∀ (span : List Byte) (s : State), SpanAccepted s.params span.length →
    let next : Word → Byte → Word :=
      fun c b => (c >>> 8) ^^^ s.rom.toList.getD ((c ^^^ b.setWidth 16) &&& 0xFF#16).toNat 0#16
    let v : Word := span.foldl next 0xFFFF#16 ^^^ 0xFFFF#16
    ∃ t, exec (.checksum span) s = .next t ∧
      Answers s t (.ok [(v >>> 8).setWidth 8, v.setWidth 8]) ∧ TraceAfter s t [.checksumInput span]

/-- R105: the empty span gives `0x0000`, whatever the state is. -/
def Obligations.ChecksumOfEmptySpanIsZero : Prop :=
  ∀ s : State, ∃ t, exec (.checksum []) s = .next t ∧ Answers s t (.ok [0x00#8, 0x00#8])

/-- The worked example of R100 and the check value of R107: "123456789" gives `0x906E`. -/
def Obligations.ChecksumOfCheckString : Prop :=
  ∀ s : State, Memory.wf s → SpanAccepted s.params 9 →
    EndsWith s (exec (.checksum [0x31#8, 0x32#8, 0x33#8, 0x34#8, 0x35#8, 0x36#8, 0x37#8, 0x38#8, 0x39#8]) s)
      (.ok [0x90#8, 0x6E#8])

/-- The example of R54: the order of the bytes is part of the result. -/
def Obligations.ChecksumDependsOnByteOrder : Prop :=
  ∀ s : State, Memory.wf s → SpanAccepted s.params 2 →
    EndsWith s (exec (.checksum [0x01#8, 0x02#8]) s) (.ok [0x35#8, 0x8D#8]) ∧
    EndsWith s (exec (.checksum [0x02#8, 0x01#8]) s) (.ok [0x2D#8, 0x7E#8])

/-- R10 and I5: a realisation that bounds the span refuses exactly the spans over its bound. That the bound is a
parameter in the state, and that the refusal is the model's own, is log 5. -/
def Obligations.ChecksumRefusesSpansOverTheBound : Prop :=
  ∀ (span : List Byte) (s : State),
    (∀ bound, s.params.maxSpan = some bound → bound < span.length →
      exec (.checksum span) s = .refused (.spanTooLong span.length bound)) ∧
    (SpanAccepted s.params span.length → ∃ r, EndsWith s (exec (.checksum span) s) r)

/-- R109: with the checksum appended least significant byte first, the CRC is always `0x0F47`; appended most
significant byte first, as a frame stores it, it is not constant. -/
def Obligations.CrcResidueOnlyForLowByteFirst : Prop :=
  (∀ bs : List Byte, crc (bs ++ [(crc bs).setWidth 8, (crc bs >>> 8).setWidth 8]) = 0x0F47#16) ∧
    ∃ bs bs' : List Byte, crc (bs ++ be 2 (crc bs).toNat) ≠ crc (bs' ++ be 2 (crc bs').toNat)

/-! ### The field encoders -/

/-- R11, R41: `be_n` is `n` bytes, byte `k` is `(v >> 8(n-1-k)) & 0xFF`, and reading it back most significant byte first
gives the value. -/
def Obligations.BigEndianBytesReadBack : Prop :=
  ∀ n v : Nat, v < 256 ^ n → (be n v).length = n ∧ fromBe (be n v) = v ∧
    ∀ k, k < n → (be n v)[k]? = some (BitVec.ofNat 8 (v >>> (8 * (n - 1 - k))))

/-- R121 and R130: an unsigned field is its big-endian bytes in range, and `FieldOutOfRange` with its bounds outside;
nothing wraps, and the serial number is such a field of two bytes. -/
def Obligations.UnsignedFieldNeverWraps : Prop :=
  (∀ (w : Nat) (id : FieldId) (v : Int),
    (0 ≤ v → v ≤ 2 ^ (8 * w) - 1 → uintField w id v = .ok (be w v.toNat)) ∧
    (v < 0 ∨ v > 2 ^ (8 * w) - 1 → uintField w id v = .error (.fieldOutOfRange id 0 (2 ^ (8 * w) - 1)))) ∧
  (∀ v : Int, (0 ≤ v → v ≤ 65535 → serialField v = .ok (be 2 v.toNat)) ∧
    (v < 0 ∨ v > 65535 → serialField v = .error (.fieldOutOfRange .serial 0 65535)))

/-- R122 and R123: the scaled value is the exact rational product rounded toward zero (the floor of a product that is not
negative, the ceiling of one that is), then range-checked as an integer. -/
def Obligations.FixedPointFieldsTruncateTowardZero : Prop :=
  (∀ (id : FieldId) (q : Rat),
    let v : Int := if 0 ≤ q * 1800000 then ⌊q * 1800000⌋ else ⌈q * 1800000⌉
    fixLat id q = if 0 ≤ v ∧ v ≤ 4294967295 then .ok (be 4 v.toNat) else .error (.fieldOutOfRange id 0 4294967295)) ∧
  (∀ q : Rat,
    let v : Int := if 0 ≤ q * 100 then ⌊q * 100⌋ else ⌈q * 100⌉
    fixVolt q = if 0 ≤ v ∧ v ≤ 65535 then .ok (be 2 v.toNat) else .error (.fieldOutOfRange .voltage 0 65535))

/-- R124 and R125: a non-empty string of ASCII digits gives its decimal value mod 2^64 in eight bytes, however long it
is; any other string raises `InvalidIdentity`. -/
def Obligations.IdentityKeepsTheLow64Bits : Prop :=
  ∀ identity : List Byte,
    (identity ≠ [] → (∀ ch ∈ identity, 0x30 ≤ ch.toNat ∧ ch.toNat ≤ 0x39) →
      identField identity = .ok (be 8 (decimalValue identity % 2 ^ 64))) ∧
    (identity = [] ∨ (∃ ch ∈ identity, ch.toNat < 0x30 ∨ 0x39 < ch.toNat) →
      identField identity = .error .invalidIdentity)

/-- R126: the time zone is checked first, then the language; the word is the zone's 12-bit two's complement in bits
15..4 and the language in bits 3..0, so a negative zone and the zone 4096 above it share a code. -/
def Obligations.TimeZoneWordIsTwosComplement : Prop :=
  (∀ tz lang : Int, tzlang tz lang =
    if tz < -2048 ∨ tz > 4095 then .error (.fieldOutOfRange .tzH100 (-2048) 4095)
    else if lang < 0 ∨ lang > 15 then .error (.fieldOutOfRange .language 0 15)
    else .ok (be 2 ((if tz < 0 then tz + 4096 else tz).toNat * 16 + lang.toNat))) ∧
  (∀ tz lang : Int, -2048 ≤ tz → tz < 0 → tzlang tz lang = tzlang (tz + 4096) lang)

/-- R127: the cell id is checked at 32 bits and keeps its low 24. -/
def Obligations.CellIdKeepsTheLow24Bits : Prop :=
  ∀ v : Int,
    (0 ≤ v → v ≤ 4294967295 → cell3 v = .ok (be 3 (v.toNat % 2 ^ 24))) ∧
    (v < 0 ∨ v > 4294967295 → cell3 v = .error (.fieldOutOfRange .cellId 0 4294967295))

/-! ### The framing -/

/-- R131, R132 and R203: around a payload of N bytes and an accepted serial number, the region is the length byte N + 5,
the kind, the payload and the serial number, N + 4 bytes; and N + 5 over 255 raises `FrameTooLarge(N + 5)`. -/
def Obligations.RegionCarriesLengthKindPayloadSerial : Prop :=
  ∀ (kind : Byte) (payload : List Byte) (serial : Int), 0 ≤ serial → serial ≤ 65535 →
    (payload.length + 5 ≤ 255 → ∃ region,
      frameRegion kind (.ok payload) serial = .ok region ∧
      region = [BitVec.ofNat 8 (payload.length + 5), kind] ++ payload ++ be 2 serial.toNat ∧
      region.length = payload.length + 4) ∧
    (payload.length + 5 > 255 →
      frameRegion kind (.ok payload) serial = .error (.frameTooLarge (payload.length + 5)))

/-- R137: the payloads have 12, 33, 35 and 7 bytes, so no operation ends with `FrameTooLarge`; yet the check is in the
algorithm, which raises it at N = 251. -/
def Obligations.FrameTooLargeIsUnreachable : Prop :=
  (∀ identity modelCode tz lang p, serializeLogin identity modelCode tz lang = .ok p → p.length = 12) ∧
  (∀ sat g acc up re odo p, serializeLocation sat g acc up re odo = .ok p → p.length = 33) ∧
  (∀ sat g ts bat sig al odo p, serializeAlarm sat g ts bat sig al odo = .ok p → p.length = 35) ∧
  (∀ ts volts bat sig lp p, serializeHeartbeat ts volts bat sig lp = .ok p → p.length = 7) ∧
  (∀ (i : Instr) (s t : State) (length : Nat), exec i s = .next t → ¬ Answers s t (.err (.frameTooLarge length))) ∧
  frameLength 250 = .ok 255 ∧ frameLength 251 = .error (.frameTooLarge 256)

/-! ### The build operations -/

/-- R151: BUILD_LOGIN answers the frame of R70 when every operand is accepted, and otherwise the first error in the order
identity, model_code, tz_h100, language, serial. Nothing else changes but the status and the hook's trace; what the trace
holds (`TraceAfter`) is the model's (log 6, DESIGN CHOICE). -/
def Obligations.BuildLoginAnswersFrameOrFirstError : Prop :=
  ∀ (identity : List Byte) (modelCode tz lang serial : Int) (s : State),
    let i := Instr.buildLogin identity modelCode tz lang serial
    let f := frameLayout s.rom 0x01#8 (loginPayload identity modelCode tz lang) serial.toNat
    (i.wellFormed → ∃ t, exec i s = .next t ∧ Answers s t (.ok f) ∧ TraceAfter s t (frameEvents i f)) ∧
    (∀ e, i.firstError = some e → ∃ t, exec i s = .next t ∧ Answers s t (.err e) ∧ TraceAfter s t [.frameBuild i (.err e)])

/-- R152: BUILD_LOCATION answers the frame of R71 when every operand is accepted, and otherwise `FieldOutOfRange` of the
first field in layout order, the serial number last. Nothing else changes but the status and the hook's
trace; what the trace holds (`TraceAfter`) is the model's (log 6, DESIGN CHOICE). -/
def Obligations.BuildLocationAnswersFrameOrFirstError : Prop :=
  ∀ (g : GeoOperands) (acc uploadMode reupload odometer serial : Int) (s : State),
    let i := Instr.buildLocation g acc uploadMode reupload odometer serial
    let f := frameLayout s.rom 0x22#8 (locationPayload s.params.satellites g acc uploadMode reupload odometer) serial.toNat
    (i.wellFormed → ∃ t, exec i s = .next t ∧ Answers s t (.ok f) ∧ TraceAfter s t (frameEvents i f)) ∧
    (∀ e, i.firstError = some e → ∃ t, exec i s = .next t ∧ Answers s t (.err e) ∧ TraceAfter s t [.frameBuild i (.err e)])

/-- R153: BUILD_ALARM answers the frame of R72 when every operand is accepted, and otherwise `FieldOutOfRange` of the
first field in layout order, the serial number last. Nothing else changes but the status and the hook's
trace; what the trace holds (`TraceAfter`) is the model's (log 6, DESIGN CHOICE). -/
def Obligations.BuildAlarmAnswersFrameOrFirstError : Prop :=
  ∀ (g : GeoOperands) (terminalStatus battery signal alarmLanguage odometer serial : Int) (s : State),
    let i := Instr.buildAlarm g terminalStatus battery signal alarmLanguage odometer serial
    let f := frameLayout s.rom 0x26#8
      (alarmPayload s.params.satellites g terminalStatus battery signal alarmLanguage odometer) serial.toNat
    (i.wellFormed → ∃ t, exec i s = .next t ∧ Answers s t (.ok f) ∧ TraceAfter s t (frameEvents i f)) ∧
    (∀ e, i.firstError = some e → ∃ t, exec i s = .next t ∧ Answers s t (.err e) ∧ TraceAfter s t [.frameBuild i (.err e)])

/-- R154: BUILD_HEARTBEAT answers the frame of R73 when every operand is accepted, and otherwise `FieldOutOfRange` of the
first field in layout order, the serial number last. A voltage above -0.01 and below 0 gives `00 00`, by R73, R123 and
D5, where R154's corner case says that a negative value fails (log 20, DEDUCED). Nothing else changes but the status and
the hook's trace; what the trace holds (`TraceAfter`) is the model's (log 6, DESIGN CHOICE). -/
def Obligations.BuildHeartbeatAnswersFrameOrFirstError : Prop :=
  ∀ (terminalStatus : Int) (volts : Rat) (battery signal languagePort serial : Int) (s : State),
    let i := Instr.buildHeartbeat terminalStatus volts battery signal languagePort serial
    let f := frameLayout s.rom 0x13#8 (heartbeatPayload terminalStatus volts battery signal languagePort) serial.toNat
    (i.wellFormed → ∃ t, exec i s = .next t ∧ Answers s t (.ok f) ∧ TraceAfter s t (frameEvents i f)) ∧
    (∀ e, i.firstError = some e → ∃ t, exec i s = .next t ∧ Answers s t (.err e) ∧ TraceAfter s t [.frameBuild i (.err e)])

/-- The worked examples of R151 (login), R154 (heartbeat, both serial numbers), R152 (location) and R153 (alarm), byte for
byte; the last two with the sample parameter `P_SATELLITES = 0xCF` that R152 and R153 use. -/
def Obligations.BuildWorkedExamples : Prop :=
  ∀ s : State, Memory.wf s →
    let g : GeoOperands := ⟨24, 11, 11, 13, 45, 30, 45 / 2, 1139 / 10, 60, 0x154C, 452, 4, 0x1234, 12345⟩
    EndsWith s
      (exec (.buildLogin [0x31#8, 0x32#8, 0x33#8, 0x34#8, 0x35#8, 0x36#8, 0x37#8, 0x38#8, 0x39#8, 0x31#8, 0x32#8, 0x33#8,
        0x34#8, 0x35#8, 0x36#8] 0x0242 800 2 1) s)
      (.ok [0x78#8, 0x78#8, 0x11#8, 0x01#8, 0x00#8, 0x00#8, 0x70#8, 0x48#8, 0x86#8, 0x0F#8, 0x91#8, 0x80#8,
         0x02#8, 0x42#8, 0x32#8, 0x02#8, 0x00#8, 0x01#8, 0x95#8, 0xC1#8, 0x0D#8, 0x0A#8]) ∧
    EndsWith s (exec (.buildHeartbeat 0x44 (25 / 2) 4 3 2 7) s)
      (.ok [0x78#8, 0x78#8, 0x0C#8, 0x13#8, 0x44#8, 0x04#8, 0xE2#8, 0x04#8, 0x03#8, 0x00#8, 0x02#8, 0x00#8,
         0x07#8, 0x5D#8, 0x0C#8, 0x0D#8, 0x0A#8]) ∧
    EndsWith s (exec (.buildHeartbeat 0x44 (25 / 2) 4 3 2 8) s)
      (.ok [0x78#8, 0x78#8, 0x0C#8, 0x13#8, 0x44#8, 0x04#8, 0xE2#8, 0x04#8, 0x03#8, 0x00#8, 0x02#8, 0x00#8,
         0x08#8, 0xA5#8, 0xFB#8, 0x0D#8, 0x0A#8]) ∧
    (s.params.satellites = 0xCF#8 →
      EndsWith s
        (exec (.buildLocation g 1 0 0 123456 2) s)
        (.ok [0x78#8, 0x78#8, 0x26#8, 0x22#8, 0x18#8, 0x0B#8, 0x0B#8, 0x0D#8, 0x2D#8, 0x1E#8, 0xCF#8, 0x02#8,
           0x69#8, 0xFB#8, 0x20#8, 0x0C#8, 0x38#8, 0x5B#8, 0x60#8, 0x3C#8, 0x15#8, 0x4C#8, 0x01#8, 0xC4#8,
           0x04#8, 0x12#8, 0x34#8, 0x00#8, 0x30#8, 0x39#8, 0x01#8, 0x00#8, 0x00#8, 0x00#8, 0x01#8, 0xE2#8,
           0x40#8, 0x00#8, 0x02#8, 0x78#8, 0x94#8, 0x0D#8, 0x0A#8]) ∧
      EndsWith s
        (exec (.buildAlarm g 0x44 4 3 0x0102 123456 3) s)
        (.ok [0x78#8, 0x78#8, 0x28#8, 0x26#8, 0x18#8, 0x0B#8, 0x0B#8, 0x0D#8, 0x2D#8, 0x1E#8, 0xCF#8, 0x02#8,
           0x69#8, 0xFB#8, 0x20#8, 0x0C#8, 0x38#8, 0x5B#8, 0x60#8, 0x3C#8, 0x15#8, 0x4C#8, 0x01#8, 0xC4#8,
           0x04#8, 0x12#8, 0x34#8, 0x00#8, 0x30#8, 0x39#8, 0x44#8, 0x04#8, 0x03#8, 0x01#8, 0x02#8, 0x00#8,
           0x01#8, 0xE2#8, 0x40#8, 0x00#8, 0x03#8, 0x01#8, 0x91#8, 0x0D#8, 0x0A#8]))

/-- R205 with R12: a build request ends with a frame exactly when every operand is accepted, and it always ends. -/
def Obligations.BuildSucceedsExactlyWhenWellFormed : Prop :=
  ∀ (i : Instr) (s : State), isBuild i →
    ((∃ f, EndsWith s (exec i s) (.ok f)) ↔ i.wellFormed) ∧
    ((∃ e, EndsWith s (exec i s) (.err e)) ↔ ¬ i.wellFormed)

/-- R207: exactly one error is reported. A reserved selector comes before everything; then the payload's first error
(the identity first, then layout order); then the serial number; then `FrameTooLarge`. The first clause is about a request
already latched; its empty event queue is the model's (log 7). -/
def Obligations.FirstErrorInPriorityOrderIsReported : Prop :=
  (∀ (op : Byte) (operands : List Operand) (s : State),
    op ∉ [0x01#8, 0x13#8, 0x22#8, 0x26#8, 0xC0#8] → s.inbox = [] → s.req = some ⟨op, operands⟩ →
      EndsWith s (step s) (.err (.unsupportedOperation op))) ∧
  (∀ (i : Instr) (s : State) (e : Error), i.firstError = some e →
      EndsWith s (exec i s) (.err e) ∧ ∀ r, EndsWith s (exec i s) r → r = .err e) ∧
  (∀ (kind : Byte) (e : Error) (serial : Int), frameRegion kind (.error e) serial = .error e) ∧
  (∀ (kind : Byte) (payload : List Byte) (serial : Int), serial < 0 ∨ serial > 65535 →
      frameRegion kind (.ok payload) serial = .error (.fieldOutOfRange .serial 0 65535))

/-- R135: the length byte of every frame the block returns is the frame's length less 5. -/
def Obligations.FrameLengthByteIsLengthLessFive : Prop :=
  ∀ (i : Instr) (s : State) (f : List Byte), isBuild i → EndsWith s (exec i s) (.ok f) →
    (f.getD 2 0).toNat = f.length - 5 ∧ 5 ≤ f.length

/-- R136: the CRC of `f[2 : len-4]` is the big-endian value stored at `len-4` and `len-3`. -/
def Obligations.FrameChecksumMatchesItsRegion : Prop :=
  ∀ (i : Instr) (s : State) (f : List Byte), isBuild i → Memory.wf s → EndsWith s (exec i s) (.ok f) →
    (crc (slice f 2 (f.length - 4))).toNat
      = (f.getD (f.length - 4) 0).toNat * 256 + (f.getD (f.length - 3) 0).toNat

/-- R74: every frame of a kind has the kind's size: N + 10 bytes in all, length byte N + 5, region N + 4 bytes, for N = 12
(login), 33 (location), 35 (alarm) and 7 (heartbeat). -/
def Obligations.FrameSizesAreFixedPerKind : Prop :=
  ∀ (i : Instr) (s : State) (f : List Byte), isBuild i → EndsWith s (exec i s) (.ok f) →
    f.length = payloadLength i + 10 ∧ (f.getD 2 0).toNat = payloadLength i + 5 ∧
      (slice f 2 (f.length - 4)).length = payloadLength i + 4

/-- R78: the kind byte at offset 3 is the request's own selector, one of the four kind bytes; the frame begins with the
start marker and ends with the terminator. -/
def Obligations.FrameMarkersAndKindByte : Prop :=
  ∀ (i : Instr) (s : State) (f : List Byte), isBuild i → EndsWith s (exec i s) (.ok f) →
    f.getD 3 0 = i.selector ∧ f.getD 3 0 ∈ [0x01#8, 0x22#8, 0x26#8, 0x13#8] ∧
      slice f 0 2 = [0x78#8, 0x78#8] ∧ slice f (f.length - 2) f.length = [0x0D#8, 0x0A#8]

/-- R68 and R129: the satellite-count byte, at frame offset 10 of a location and of an alarm frame, is the parameter,
and no request fails on it. -/
def Obligations.SatelliteByteIsTheParameter : Prop :=
  (∀ (g : GeoOperands) (acc up re odo serial : Int) (s : State) (f : List Byte),
    EndsWith s (exec (.buildLocation g acc up re odo serial) s) (.ok f) → f.getD 10 0 = s.params.satellites) ∧
  (∀ (g : GeoOperands) (ts bat sig al odo serial : Int) (s : State) (f : List Byte),
    EndsWith s (exec (.buildAlarm g ts bat sig al odo serial) s) (.ok f) → f.getD 10 0 = s.params.satellites) ∧
  (∀ (i : Instr) (s : State) (lo hi : Int), ¬ EndsWith s (exec i s) (.err (.fieldOutOfRange .satellites lo hi)))

/-- R72 and R150: a location and an alarm frame built from the same geolocation operands have the same bytes at offsets
4 to 29. -/
def Obligations.AlarmSharesTheLocationBlock : Prop :=
  ∀ (g : GeoOperands) (acc up re odo n ts bat sig al odo' m : Int) (s : State) (f f' : List Byte),
    EndsWith s (exec (.buildLocation g acc up re odo n) s) (.ok f) →
    EndsWith s (exec (.buildAlarm g ts bat sig al odo' m) s) (.ok f') →
      slice f 4 30 = slice f' 4 30

/-- R138: two successful requests that differ only in the serial number give frames that differ at most at the serial's
bytes 4+N and 5+N and the checksum's bytes 6+N and 7+N. -/
def Obligations.SerialChangesOnlySerialAndChecksum : Prop :=
  ∀ (i : Instr) (n m : Int) (s : State) (f f' : List Byte), isBuild i →
    EndsWith s (exec (withSerial n i) s) (.ok f) → EndsWith s (exec (withSerial m i) s) (.ok f') →
      f.length = f'.length ∧
        ∀ k, k < 4 + payloadLength i ∨ 8 + payloadLength i ≤ k → f[k]? = f'[k]?

/-! ### The receiver -/

/-- R180: every frame the block returns passes the reference frame check. -/
def Obligations.EveryFramePassesTheFrameCheck : Prop :=
  ∀ (i : Instr) (s : State) (f : List Byte), isBuild i → Memory.wf s → EndsWith s (exec i s) (.ok f) →
    frameCheck f = .frameOk

/-- R182: the reference decoder gives back the canonical form of every build request that succeeds. -/
def Obligations.DecodedFrameIsTheCanonicalRequest : Prop :=
  ∀ (i : Instr) (s : State) (f : List Byte), isBuild i → Memory.wf s → EndsWith s (exec i s) (.ok f) →
    decodeFrame f = canon s.params.satellites i ∧ (canon s.params.satellites i).isSome

/-- Rests on R180, R101 and R103: in a frame that passes the check, changing one byte of the kind, the payload or the
serial number is always found as `ChecksumMismatch` (V-RX-2 is one instance). -/
def Obligations.SingleByteCorruptionIsDetected : Prop :=
  ∀ (f : List Byte) (k : Nat) (b : Byte), frameCheck f = .frameOk → 3 ≤ k → k < f.length - 4 → f[k]? ≠ some b →
    frameCheck (f.set k b) = .checksumMismatch

/-- R180 and R204: the exact condition of `ChecksumMismatch`, and that a wrong length byte is `MalformedFrame` even when
the checksum is right. -/
def Obligations.ChecksumMismatchCondition : Prop :=
  ∀ f : List Byte,
    (frameCheck f = .checksumMismatch ↔
      10 ≤ f.length ∧ slice f 0 2 = startMarker ∧ slice f (f.length - 2) f.length = terminator ∧
        (f.getD 2 0).toNat = f.length - 5 ∧
        (crc (slice f 2 (f.length - 4))).toNat ≠ fromBe (slice f (f.length - 4) (f.length - 2))) ∧
    ((f.getD 2 0).toNat ≠ f.length - 5 → frameCheck f = .malformedFrame)

/-- R183: the acknowledgement's kind is the byte at index 3, if the response is that long. -/
def Obligations.AckKindIsTheFourthByte : Prop :=
  ∀ resp : List Byte,
    (4 ≤ resp.length → ackKind resp = some (resp.getD 3 0)) ∧ (resp.length < 4 → ackKind resp = none)

/-- Program P3 (R133 with R100): CHECKSUM over the region of a frame the block returned answers the two checksum bytes of
that frame. -/
def Obligations.ChecksumOverRegionConfirmsFrame : Prop :=
  ∀ (i : Instr) (s s' : State) (f : List Byte), isBuild i → Memory.wf s → Memory.wf s' →
    EndsWith s (exec i s) (.ok f) → SpanAccepted s'.params (f.length - 6) →
      EndsWith s' (exec (.checksum (slice f 2 (f.length - 4))) s') (.ok (slice f (f.length - 4) (f.length - 2)))

/-! ### Requests: decoding and the step -/

/-- Records written out from the spec's own encodings (R60, R62; 95_test_vectors.md P1, P2, P4) decode to what they
stand for. -/
def Obligations.WrittenRecordsDecode : Prop :=
  decode ⟨0x01#8, [.bytes [0x31#8, 0x32#8], .int 578, .int 800, .int 2, .int 1]⟩
    = .instr (.buildLogin [0x31#8, 0x32#8] 578 800 2 1) ∧
  decode ⟨0x13#8, [.int 68, .rat (25 / 2), .int 4, .int 3, .int 2, .int 7]⟩ = .instr (.buildHeartbeat 68 (25 / 2) 4 3 2 7) ∧
  decode ⟨0xC0#8, [.bytes [0x01#8, 0x02#8]]⟩ = .instr (.checksum [0x01#8, 0x02#8]) ∧
  decode ⟨0x12#8, [.int 68]⟩ = .reserved 0x12#8

/-- R60 and R62: the record the encoder writes for an operation decodes to that operation, whatever its operands. -/
def Obligations.DecodeOfEncodeIsTheOperation : Prop :=
  ∀ i : Instr, decode (encode i) = .instr i

/-- R60, R62 and R155: a record that decodes to an operation is the one the encoder writes, so no operand of a record is
dropped or moved, and the selector is the operation's. -/
def Obligations.EncodeOfDecodeIsTheRecord : Prop :=
  ∀ (r : Request) (i : Instr), decode r = .instr i → encode i = r

/-- R22 and R155: a step runs the decoded operation, on the request in progress or else on the next one sent, which it
accepts first (latched, one event consumed). The event queue is the model's (log 7). -/
def Obligations.StepRunsTheDecodedOperation : Prop :=
  (∀ (s : State) (r : Request) (rest : List HostEvent) (i : Instr),
    s.req = none → s.inbox = .request r :: rest → decode r = .instr i →
      step s = exec i { s with inbox := rest, req := some r }) ∧
  (∀ (s : State) (r : Request) (i : Instr),
    s.req = some r → s.inbox.head? ≠ some .reset → decode r = .instr i → step s = exec i s)

/-- R206 and R61: a reserved selector answers `UnsupportedOperation(op)` whatever the operands are, emits no byte and
changes nothing else. That the request is the head of an event queue, which it leaves, is the model's (log 7, DESIGN CHOICE),
and so is that the hook gets nothing of it (log 6, DESIGN CHOICE). -/
def Obligations.ReservedSelectorIsUnsupported : Prop :=
  ∀ (op : Byte) (operands : List Operand) (s : State) (rest : List HostEvent),
    op ∉ [0x01#8, 0x13#8, 0x22#8, 0x26#8, 0xC0#8] → s.req = none → s.inbox = .request ⟨op, operands⟩ :: rest →
      ∃ t, step s = .next t ∧ Answers { s with inbox := rest } t (.err (.unsupportedOperation op)) ∧ t.trace = s.trace

/-- Log 2, the model's choice: a record that is not of its selector's format, which R62 cannot present, is refused by
name. -/
def Obligations.MismatchedRecordIsRefused : Prop :=
  ∀ (r : Request) (s : State) (rest : List HostEvent),
    formatOf r.op ≠ none → (∀ i, encode i ≠ r) → s.req = none → s.inbox = .request r :: rest →
      step s = .refused (.operandMismatch r.op)

/-- R230: the state right after reset; and a reset that arrives drops a request in progress without a response, leaving
the ROM, the parameters and what the host already has unchanged. The event queue and the response list, and that they
stay, are the model's (logs 7, 8 and 11). -/
def Obligations.ResetStateAndResetEvent : Prop :=
  (State.reset.rom = romTable ∧ Idle State.reset ∧ State.reset.status = none ∧
    State.reset.params.satellites = Config.pSatellites) ∧
  (∀ (s : State) (rest : List HostEvent), s.inbox = .reset :: rest →
    ∃ t, step s = .next t ∧ t.rom = s.rom ∧ t.params = s.params ∧ Idle t ∧ t.status = none ∧
      t.responses = s.responses ∧ t.inbox = rest)

/-- Log 10, the model's choice over R231: with no request and no reset the block waits, and nothing changes. -/
def Obligations.IdleBlockWaits : Prop :=
  ∀ s : State, s.req = none → s.inbox = [] → step s = .next s

/-! ### The whole machine -/

/-- R20, R23, R209: whatever the operation, its operands and the state, a next state of `exec` has exactly one more
response, the status written from it, no transient value left, and the ROM, the parameters and the host's events
unchanged. The hook's trace is excepted: it is only added to, and is unchanged where the hook is not offered (R216,
log 6, DESIGN CHOICE). -/
def Obligations.EveryOperationAnswersOnceAndChangesNothingElse : Prop :=
  ∀ (i : Instr) (s t : State), exec i s = .next t →
    ∃ r, Answers s t r ∧ Idle t ∧ (∀ r', Answers s t r' → r' = r) ∧
      (∀ a : Byte, romRead t.rom a = romRead s.rom a) ∧ s.trace <+: t.trace ∧ (s.params.hook = false → t.trace = s.trace)

/-- I3 and R230: no step reads `C`, `OUT` or `REQ` while it has no value, from any state. -/
def Obligations.NoStepReadsAValueThatIsNotThere : Prop :=
  ∀ (s : State) (x : Fault), step s ≠ .fault x

/-- The model's only refusals (logs 2 and 5, DESIGN CHOICE). A refusing step answers a request, the one in progress or else
the next one sent, and either that request has an assigned selector and is no operation's record, or it is a CHECKSUM of
a span over the bound of the realisation; the refusal carries that selector, or that span's length and that bound. -/
def Obligations.StepRefusesOnlyForTwoReasons : Prop :=
  ∀ (s : State) (x : Refusal), step s = .refused x →
    ∃ r : Request, (s.req = some r ∨ s.req = none ∧ s.inbox.head? = some (.request r)) ∧
      ((x = .operandMismatch r.op ∧ formatOf r.op ≠ none ∧ ∀ i, encode i ≠ r) ∨
        ∃ span bound, x = .spanTooLong span.length bound ∧ decode r = .instr (.checksum span) ∧
          s.params.maxSpan = some bound ∧ bound < span.length)

/-- R30: the response depends on the operands, the ROM and the parameters alone, not on anything that happened before,
nor on the hook. -/
def Obligations.ResponseDependsOnRequestRomAndParameters : Prop :=
  ∀ (i : Instr) (s s' : State) (r : Response), s.rom = s'.rom → s.params.satellites = s'.params.satellites →
    s.params.maxSpan = s'.params.maxSpan → EndsWith s (exec i s) r → EndsWith s' (exec i s') r

/-- R216: the hook observes only. Offering it or not changes nothing but the trace; it only adds to the trace; and
without it the trace never changes. What the trace holds is the model's (log 6, DESIGN CHOICE). -/
def Obligations.HookObservesOnly : Prop :=
  ∀ (i : Instr) (s t : State) (offered : Bool), exec i s = .next t →
    s.trace <+: t.trace ∧ (s.params.hook = false → t.trace = s.trace) ∧
    ∃ t', exec i { s with params := { s.params with hook := offered } } = .next t' ∧
      { t' with trace := t.trace, params := t.params } = t

/-- The machine's invariant holds right after reset. -/
def Obligations.ResetSatisfiesTheInvariant : Prop := MachineInvariant State.reset

/-- Rests on R20, R23, R25, R74, R76, R78, R137, R180 and R202: every step, from any state that meets it, keeps the
invariant: the ROM holds the table, nothing transient is left, and every response ever returned is a 2-byte checksum, a
frame of one of the four kinds that passes the receiver's check, or an error with its own bounds. -/
def Obligations.EveryStepKeepsTheInvariant : Prop :=
  ∀ s t : State, MachineInvariant s → step s = .next t → MachineInvariant t

/-- R50, R30 and R240: a run of a request program, from any idle state, returns one response per request, in order, and
each is the response that request gets when it is the only one the block ever sees. -/
def Obligations.ProgramRunAnswersEachRequestAsIfAlone : Prop :=
  ∀ (requests : List Request) (s : State), Idle s → s.inbox = requests.map .request →
    (∀ r ∈ requests, (responseAlone s.rom s.params r).isSome) →
      ∃ t, Sys2Proof.core.run requests.length s = .next t ∧
        t.responses.map some = s.responses.map some ++ requests.map (responseAlone s.rom s.params) ∧
        Idle t ∧ t.inbox = [] ∧ t.rom = s.rom ∧ t.params = s.params
end

