-- ==== Sys2Proof/Laws/Operands.lean ====
section
/-! SUPPORT. What the range checks and the plain encoders can do, against the rows of WellFormed.lean. -/

namespace Sys2Proof.Machine

@[simp] theorem be_length (n v : Nat) : (be n v).length = n := by
  induction n with
  | zero => rfl
  | succ n ih => simp [be, ih]

@[simp] theorem be_zero (v : Nat) : be 0 v = [] := rfl

theorem be_succ (n v : Nat) : be (n + 1) v = BitVec.ofNat 8 (v >>> (8 * n)) :: be n v := rfl

@[simp] theorem uintMax_one : uintMax 1 = 255 := rfl
@[simp] theorem uintMax_two : uintMax 2 = 65535 := rfl
@[simp] theorem uintMax_four : uintMax 4 = 4294967295 := rfl

/-- A range check passes or raises the one error that names its row. -/
theorem checkRange_eq (id : FieldId) (lo hi v : Int) :
    checkRange id lo hi v = if (FieldCheck.int id lo hi v).accepted then .ok () else .error (.fieldOutOfRange id lo hi) := by
  unfold checkRange FieldCheck.int
  by_cases h : v < lo ∨ v > hi
  · rw [if_pos h, if_neg]; simp; omega
  · rw [if_neg h, if_pos]; simp; omega

/-- An unsigned field is its big-endian bytes, or raises the one error that names its row. -/
theorem uintField_eq (w : Nat) (id : FieldId) (v : Int) :
    uintField w id v = if (FieldCheck.int id 0 (uintMax w) v).accepted then .ok (be w v.toNat)
      else .error (.fieldOutOfRange id 0 (uintMax w)) := by
  unfold uintField
  rw [checkRange_eq]
  split <;> rfl

/-- The truncated scaled value is in `0..hi` exactly when the row of a fixed-point field accepts the operand. -/
theorem truncScaled_range (id : FieldId) (q : Rat) (scale hi : Nat) :
    (FieldCheck.int id 0 hi (truncScaled q scale)).accepted = (FieldCheck.scaled id scale hi q).accepted := by
  have hd : (0 : Int) < q.den := by exact_mod_cast q.den_pos
  rw [Bool.eq_iff_iff]
  simp only [FieldCheck.int, FieldCheck.scaled, Bool.and_eq_true, decide_eq_true_eq]
  unfold truncScaled
  generalize q.num * (scale : Int) = x
  generalize (q.den : Int) = d at hd
  rcases Int.lt_or_le x 0 with hx | hx
  · have e : x.tdiv d = -((-x) / d) := by
      rw [← Int.neg_neg x, Int.neg_tdiv, Int.tdiv_eq_ediv_of_nonneg (by omega), Int.neg_neg]
    have h1 : 0 ≤ -x / d := Int.ediv_nonneg (by omega) hd.le
    have h2 : (0 : Int) ≤ (hi + 1) * d := by positivity
    have h3 : -x / d < 1 ↔ -x < 1 * d := Int.ediv_lt_iff_lt_mul hd
    rw [e]
    omega
  · rw [Int.tdiv_eq_ediv_of_nonneg hx]
    have h1 : 0 ≤ x / d := Int.ediv_nonneg hx hd.le
    have h3 : x / d < hi + 1 ↔ x < (hi + 1) * d := Int.ediv_lt_iff_lt_mul hd
    omega

/-- A quotient of integers truncated toward zero is the floor or the ceiling of the exact rational. -/
theorem tdiv_eq_floor_or_ceil (n : Int) (d : Nat) (hd : 0 < d) :
    n.tdiv d = if 0 ≤ (n : Rat) / d then ⌊(n : Rat) / d⌋ else ⌈(n : Rat) / d⌉ := by
  have hd' : (0 : Rat) < d := by exact_mod_cast hd
  rw [Rat.floor_intCast_div_natCast, Rat.ceil_intCast_div_natCast]
  split
  · rename_i h
    have : 0 ≤ n := by
      rw [le_div_iff₀ hd', zero_mul] at h
      exact_mod_cast h
    rw [Int.tdiv_eq_ediv_of_nonneg this]
  · rename_i h
    have : n ≤ 0 := by
      rw [not_le, div_lt_iff₀ hd', zero_mul] at h
      exact_mod_cast h.le
    conv_lhs => rw [← Int.neg_neg n, Int.neg_tdiv, Int.tdiv_eq_ediv_of_nonneg (by omega)]

/-- `trunc` rounds toward zero (R11). -/
theorem trunc_eq_floor_or_ceil (q : Rat) : trunc q = if 0 ≤ q then ⌊q⌋ else ⌈q⌉ := by
  unfold trunc
  rw [tdiv_eq_floor_or_ceil _ _ q.den_pos, Rat.num_div_den]

/-- The scaled value is `trunc` of the exact rational product (R122, R123). -/
theorem truncScaled_eq_trunc (q : Rat) (scale : Nat) : truncScaled q scale = trunc (q * scale) := by
  have e : ((q.num * scale : Int) : Rat) / (q.den : Rat) = q * scale := by
    push_cast
    rw [mul_div_right_comm, Rat.num_div_den]
  rw [trunc_eq_floor_or_ceil, ← e]
  exact tdiv_eq_floor_or_ceil _ _ q.den_pos

/-- A latitude or longitude is its four bytes, or raises the one error that names its row. -/
theorem fixLat_eq (id : FieldId) (q : Rat) :
    fixLat id q = if (FieldCheck.scaled id 1800000 4294967295 q).accepted then .ok (be 4 (truncScaled q 1800000).toNat)
      else .error (.fieldOutOfRange id 0 4294967295) := by
  unfold fixLat
  rw [uintField_eq, uintMax_four, truncScaled_range]
  rfl

/-- A voltage is its two bytes, or raises the one error that names its row. -/
theorem fixVolt_eq (q : Rat) :
    fixVolt q = if (FieldCheck.scaled .voltage 100 65535 q).accepted then .ok (be 2 (truncScaled q 100).toNat)
      else .error (.fieldOutOfRange .voltage 0 65535) := by
  unfold fixVolt
  rw [uintField_eq, uintMax_two, truncScaled_range]
  rfl

/-! ### Sequencing of encoders: the first error wins -/

theorem ok_bind {α β : Type} (x : α) (k : α → Except Error β) : (Except.ok x >>= k) = k x := rfl

theorem error_bind {α β : Type} (e : Error) (k : α → Except Error β) : ((Except.error e : Except Error α) >>= k) = .error e :=
  rfl

/-- An encoder followed by the rest of a serializer: the rest runs exactly where the row accepts. -/
theorem ite_bind {α β : Type} (a : Prop) [Decidable a] (x : Except Error α) (e : Error) (k : α → Except Error β) :
    ((if a then x else .error e) >>= k) = if a then x >>= k else .error e := by
  split <;> rfl

/-- A sequence that succeeds has a first part that does. -/
theorem bind_eq_ok {α β : Type} {x : Except Error α} {k : α → Except Error β} {y : β} (h : (x >>= k) = .ok y) :
    ∃ a, x = .ok a ∧ k a = .ok y := by
  cases x with
  | error e => cases h
  | ok a => exact ⟨a, rfl, h⟩

end Sys2Proof.Machine
end

