-- ==== Sys2Proof/Laws/State.lean ====
section
/-! SUPPORT. What each update of the state does to each field, one lemma per field per update, so that no later proof
unfolds a record update. -/

namespace Sys2Proof.Machine

variable (s : State)

@[simp] theorem accept_rom (r : Request) : (accept r s).rom = s.rom := rfl
@[simp] theorem accept_c (r : Request) : (accept r s).c = s.c := rfl
@[simp] theorem accept_out (r : Request) : (accept r s).out = s.out := rfl
@[simp] theorem accept_req (r : Request) : (accept r s).req = some r := rfl
@[simp] theorem accept_status (r : Request) : (accept r s).status = s.status := rfl
@[simp] theorem accept_params (r : Request) : (accept r s).params = s.params := rfl
@[simp] theorem accept_trace (r : Request) : (accept r s).trace = s.trace := rfl
@[simp] theorem accept_inbox (r : Request) : (accept r s).inbox = s.inbox := rfl
@[simp] theorem accept_responses (r : Request) : (accept r s).responses = s.responses := rfl

@[simp] theorem applyReset_rom : (applyReset s).rom = s.rom := rfl
@[simp] theorem applyReset_c : (applyReset s).c = none := rfl
@[simp] theorem applyReset_out : (applyReset s).out = none := rfl
@[simp] theorem applyReset_req : (applyReset s).req = none := rfl
@[simp] theorem applyReset_status : (applyReset s).status = none := rfl
@[simp] theorem applyReset_params : (applyReset s).params = s.params := rfl
@[simp] theorem applyReset_trace : (applyReset s).trace = s.trace := rfl
@[simp] theorem applyReset_inbox : (applyReset s).inbox = s.inbox := rfl
@[simp] theorem applyReset_responses : (applyReset s).responses = s.responses := rfl

@[simp] theorem crcStart_rom : (crcStart s).rom = s.rom := rfl
@[simp] theorem crcStart_c : (crcStart s).c = some crcSeed := rfl
@[simp] theorem crcStart_out : (crcStart s).out = s.out := rfl
@[simp] theorem crcStart_req : (crcStart s).req = s.req := rfl
@[simp] theorem crcStart_status : (crcStart s).status = s.status := rfl
@[simp] theorem crcStart_params : (crcStart s).params = s.params := rfl
@[simp] theorem crcStart_trace : (crcStart s).trace = s.trace := rfl
@[simp] theorem crcStart_inbox : (crcStart s).inbox = s.inbox := rfl
@[simp] theorem crcStart_responses : (crcStart s).responses = s.responses := rfl

@[simp] theorem startRequest_rom : (startRequest s).rom = s.rom := rfl
@[simp] theorem startRequest_c : (startRequest s).c = s.c := rfl
@[simp] theorem startRequest_out : (startRequest s).out = some [] := rfl
@[simp] theorem startRequest_req : (startRequest s).req = s.req := rfl
@[simp] theorem startRequest_status : (startRequest s).status = s.status := rfl
@[simp] theorem startRequest_params : (startRequest s).params = s.params := rfl
@[simp] theorem startRequest_trace : (startRequest s).trace = s.trace := rfl
@[simp] theorem startRequest_inbox : (startRequest s).inbox = s.inbox := rfl
@[simp] theorem startRequest_responses : (startRequest s).responses = s.responses := rfl

@[simp] theorem finish_rom (r : Response) : (finish r s).rom = s.rom := rfl
@[simp] theorem finish_c (r : Response) : (finish r s).c = none := rfl
@[simp] theorem finish_out (r : Response) : (finish r s).out = none := rfl
@[simp] theorem finish_req (r : Response) : (finish r s).req = none := rfl
@[simp] theorem finish_status (r : Response) : (finish r s).status = some (statusOf r) := rfl
@[simp] theorem finish_params (r : Response) : (finish r s).params = s.params := rfl
@[simp] theorem finish_trace (r : Response) : (finish r s).trace = s.trace := rfl
@[simp] theorem finish_inbox (r : Response) : (finish r s).inbox = s.inbox := rfl
@[simp] theorem finish_responses (r : Response) : (finish r s).responses = s.responses ++ [r] := rfl

@[simp] theorem send_rom (r : Request) : (send r s).rom = s.rom := rfl
@[simp] theorem send_c (r : Request) : (send r s).c = s.c := rfl
@[simp] theorem send_out (r : Request) : (send r s).out = s.out := rfl
@[simp] theorem send_req (r : Request) : (send r s).req = s.req := rfl
@[simp] theorem send_status (r : Request) : (send r s).status = s.status := rfl
@[simp] theorem send_params (r : Request) : (send r s).params = s.params := rfl
@[simp] theorem send_trace (r : Request) : (send r s).trace = s.trace := rfl
@[simp] theorem send_inbox (r : Request) : (send r s).inbox = s.inbox ++ [.request r] := rfl
@[simp] theorem send_responses (r : Request) : (send r s).responses = s.responses := rfl

theorem raise_eq (e : Error) : raise e s = finish (.err e) s := rfl

@[simp] theorem observe_rom (e : HookEvent) : (observe e s).rom = s.rom := by unfold observe; split <;> rfl
@[simp] theorem observe_c (e : HookEvent) : (observe e s).c = s.c := by unfold observe; split <;> rfl
@[simp] theorem observe_out (e : HookEvent) : (observe e s).out = s.out := by unfold observe; split <;> rfl
@[simp] theorem observe_req (e : HookEvent) : (observe e s).req = s.req := by unfold observe; split <;> rfl
@[simp] theorem observe_status (e : HookEvent) : (observe e s).status = s.status := by unfold observe; split <;> rfl
@[simp] theorem observe_params (e : HookEvent) : (observe e s).params = s.params := by unfold observe; split <;> rfl
@[simp] theorem observe_trace (e : HookEvent) :
    (observe e s).trace = if s.params.hook then s.trace ++ [e] else s.trace := by
  unfold observe; split <;> rfl
@[simp] theorem observe_inbox (e : HookEvent) : (observe e s).inbox = s.inbox := by unfold observe; split <;> rfl
@[simp] theorem observe_responses (e : HookEvent) : (observe e s).responses = s.responses := by unfold observe; split <;> rfl

theorem observe_off (e : HookEvent) (h : s.params.hook = false) : observe e s = s := by simp [observe, h]

@[simp] theorem reset_rom : State.reset.rom = romTable := rfl
@[simp] theorem reset_c : State.reset.c = none := rfl
@[simp] theorem reset_out : State.reset.out = none := rfl
@[simp] theorem reset_req : State.reset.req = none := rfl
@[simp] theorem reset_status : State.reset.status = none := rfl
@[simp] theorem reset_trace : State.reset.trace = [] := rfl
@[simp] theorem reset_inbox : State.reset.inbox = [] := rfl
@[simp] theorem reset_responses : State.reset.responses = [] := rfl
@[simp] theorem reset_satellites : State.reset.params.satellites = Config.pSatellites := rfl
@[simp] theorem reset_maxSpan : State.reset.params.maxSpan = none := rfl
@[simp] theorem reset_hook : State.reset.params.hook = false := rfl

/-- What `withFetchWord` changes, and nothing else: the request in progress and the host's next event. -/
theorem withFetchWord_eq (nbits w : Nat) :
    s.withFetchWord nbits w = { s with req := none, inbox := .request (tableRequest nbits w) :: s.inbox } := rfl

end Sys2Proof.Machine
end

