-- ==== Sys2Proof/Laws/Ops.lean ====
section
/-! SUPPORT. One lemma per shared operation: everything it can do. -/

namespace Sys2Proof.Machine

/-! ### The checksum engine -/

theorem crcByte_some (b : Byte) (s : State) (c : Word) (h : s.c = some c) :
    crcByte b s = .ok { s with c := some (crcStep s.rom c b) } := by
  simp [crcByte, readC, h, bind, Except.bind, pure, Except.pure]

/-- The engine's loop folds the CRC step over the bytes, in order. -/
theorem crcBytes_some (bs : List Byte) (s : State) (c : Word) (h : s.c = some c) :
    crcBytes bs s = .ok { s with c := some (bs.foldl (crcStep s.rom) c) } := by
  induction bs generalizing s c with
  | nil => simp [crcBytes, ← h]
  | cons b bs ih =>
    simp only [crcBytes, crcByte_some b s c h, bind, Except.bind, List.foldl_cons]
    rw [ih _ (crcStep s.rom c b) rfl]

/-- The engine answers `CRC` of its input with the machine's table, leaves `C` without a value, logs its input where the
hook is offered, and does nothing else. -/
theorem crcCompute_eq (bs : List Byte) (s : State) :
    crcCompute bs s = .ok (crcWith s.rom bs, { observe (.checksumInput bs) s with c := none }) := by
  unfold crcCompute
  rw [crcBytes_some bs _ crcSeed rfl]
  simp [bind, Except.bind, crcFinish, readC, pure, Except.pure, crcWith, crcStart]

@[simp] theorem crcWith_nil (rom : Vector Word 256) : crcWith rom [] = 0x0000#16 := by
  simp [crcWith, crcSeed, crcFinalMask]

/-! ### The response buffer -/

/-- `emit` appends to the buffer. -/
theorem emit_some (bs o : List Byte) (s : State) (h : s.out = some o) :
    emit bs s = .ok { s with out := some (o ++ bs) } := by
  induction bs generalizing s o with
  | nil => simp [emit, ← h]
  | cons b bs ih =>
    simp only [emit, emitByte, readOut, h, bind, Except.bind, pure, Except.pure]
    rw [ih (o ++ [b]) _ rfl]
    simp

/-- `reply` ends the request with what the buffer then holds. -/
theorem reply_some (bs o : List Byte) (s : State) (h : s.out = some o) :
    reply bs s = .ok (finish (.ok (o ++ bs)) s) := by
  simp only [reply, emit_some bs o s h, bind, Except.bind, respond, readOut, pure, Except.pure]
  rfl

/-- A request that starts with the empty buffer ends with exactly the bytes it emits. -/
theorem reply_fresh (bs : List Byte) (s : State) (h : s.out = some []) : reply bs s = .ok (finish (.ok bs) s) := by
  simpa using reply_some bs [] s h

/-! ### The operations -/

/-- CHECKSUM's whole effect on a span that the realisation accepts. -/
theorem execChecksum_eq (span : List Byte) (s : State) (h : spanBoundExceeded s.params span = none) :
    execChecksum span s =
      .next (finish (.ok (be 2 (crcWith s.rom span).toNat)) (observe (.checksumInput span) (startRequest s))) := by
  simp only [execChecksum, h, checksumReply, crcCompute_eq, bind, Except.bind]
  rw [reply_fresh _ _ (by simp)]
  rfl

/-- CHECKSUM on a span over the realisation's bound. -/
theorem execChecksum_refused (span : List Byte) (s : State) (b : Nat) (h : spanBoundExceeded s.params span = some b) :
    execChecksum span s = .refused (.spanTooLong span.length b) := by
  simp only [execChecksum, h]

theorem spanBoundExceeded_none {p : Params} {span : List Byte} :
    spanBoundExceeded p span = none ↔ ∀ b, p.maxSpan = some b → span.length ≤ b := by
  unfold spanBoundExceeded
  split
  · simp_all
  · rename_i b hb
    simp only [hb, Option.some.injEq, forall_eq']
    split <;> simp <;> omega

/-- The response of a build whose region, or error, is given. -/
def buildResponse (rom : Vector Word 256) : Except Error (List Byte) → Response
  | .error e => .err e
  | .ok region => .ok (frameOf region (crcWith rom region))

/-- The events a build leaves in the trace where the hook is offered. -/
def buildEvents (i : Instr) (rom : Vector Word 256) : Except Error (List Byte) → List HookEvent
  | .error e => [.frameBuild i (.err e)]
  | .ok region => [.checksumInput region, .frameBuild i (.ok (frameOf region (crcWith rom region)))]

/-- A build always answers a next state: its frame, or the first error. -/
theorem build_eq (i : Instr) (kind : Byte) (payload : Except Error (List Byte)) (serial : Int) (s : State) :
    build i kind payload serial (startRequest s) =
      .next { finish (buildResponse s.rom (frameRegion kind payload serial)) s with
        trace := if s.params.hook then s.trace ++ buildEvents i s.rom (frameRegion kind payload serial) else s.trace } := by
  unfold build
  cases frameRegion kind payload serial with
  | error e =>
    simp only [buildResponse, buildEvents, raise_eq]
    cases h : s.params.hook <;> simp [observe, h, finish, startRequest]
  | ok region =>
    simp only [emitFrame, crcCompute_eq, bind, Except.bind, buildResponse, buildEvents]
    rw [reply_fresh _ _ (by simp)]
    cases h : s.params.hook <;> simp [observe, h, finish, startRequest, outcomeOf, pure, Except.pure]

/-- The region, or the first error, of each build; CHECKSUM builds nothing. -/
def regionOf (satellites : Byte) : Instr → Option (Except Error (List Byte))
  | .buildLogin identity modelCode tzH100 language serial =>
    some (frameRegion kindLogin (serializeLogin identity modelCode tzH100 language) serial)
  | .buildHeartbeat terminalStatus volts battery signal languagePort serial =>
    some (frameRegion kindHeartbeat (serializeHeartbeat terminalStatus volts battery signal languagePort) serial)
  | .buildLocation g acc uploadMode reupload odometer serial =>
    some (frameRegion kindLocation (serializeLocation satellites g acc uploadMode reupload odometer) serial)
  | .buildAlarm g terminalStatus battery signal alarmLanguage odometer serial =>
    some (frameRegion kindAlarm (serializeAlarm satellites g terminalStatus battery signal alarmLanguage odometer) serial)
  | .checksum _ => none

/-- Every build, said once. -/
theorem exec_build (i : Instr) (s : State) (x : Except Error (List Byte)) (h : regionOf s.params.satellites i = some x) :
    exec i s = .next { finish (buildResponse s.rom x) s with
      trace := if s.params.hook then s.trace ++ buildEvents i s.rom x else s.trace } := by
  cases i <;> simp only [regionOf, Option.some.injEq, reduceCtorEq] at h <;> subst h <;> exact build_eq _ _ _ _ s

/-- The frame of every operation: ending a request answers it and leaves the rest alone. -/
theorem answers_finish (s : State) (r : Response) (tr : List HookEvent) :
    Answers s { finish r s with trace := tr } r := ⟨rfl, rfl, rfl, rfl, rfl, rfl, rfl, rfl⟩

/-- What `exec` can do: answer the request, or refuse a span over the realisation's bound. -/
theorem exec_cases (i : Instr) (s : State) :
    (∃ r, EndsWith s (exec i s) r) ∨
      ∃ span b, i = .checksum span ∧ s.params.maxSpan = some b ∧ b < span.length ∧
        exec i s = .refused (.spanTooLong span.length b) := by
  cases hx : regionOf s.params.satellites i with
  | some x => exact .inl ⟨_, _, exec_build i s x hx, answers_finish s _ _⟩
  | none =>
    cases i <;> simp only [regionOf, reduceCtorEq] at hx
    rename_i span
    cases hb : spanBoundExceeded s.params span with
    | none =>
      refine .inl ⟨.ok (be 2 (crcWith s.rom span).toNat), _, execChecksum_eq span s hb, ?_⟩
      constructor <;> simp
    | some b =>
      refine .inr ⟨span, b, rfl, ?_, ?_, execChecksum_refused span s b hb⟩ <;>
        (unfold spanBoundExceeded at hb; split at hb <;> simp_all <;> omega)

/-! ### Memory -/

theorem reset_memory_wf : Memory.wf State.reset := rfl
theorem accept_memory_wf {r : Request} {s : State} (h : Memory.wf s) : Memory.wf (accept r s) := h
theorem applyReset_memory_wf {s : State} (h : Memory.wf s) : Memory.wf (applyReset s) := h
theorem observe_memory_wf {e : HookEvent} {s : State} (h : Memory.wf s) : Memory.wf (observe e s) := by
  unfold Memory.wf; simpa using h
theorem crcStart_memory_wf {s : State} (h : Memory.wf s) : Memory.wf (crcStart s) := h
theorem startRequest_memory_wf {s : State} (h : Memory.wf s) : Memory.wf (startRequest s) := h
theorem finish_memory_wf {r : Response} {s : State} (h : Memory.wf s) : Memory.wf (finish r s) := h
theorem raise_memory_wf {e : Error} {s : State} (h : Memory.wf s) : Memory.wf (raise e s) := h

theorem crcByte_memory_wf {b : Byte} {s t : State} (h : Memory.wf s) (e : crcByte b s = .ok t) : Memory.wf t := by
  unfold crcByte readC at e
  split at e <;> simp [bind, Except.bind, pure, Except.pure] at e
  exact e ▸ h

theorem crcCompute_memory_wf {bs : List Byte} {s t : State} {v : Word} (h : Memory.wf s)
    (e : crcCompute bs s = .ok (v, t)) : Memory.wf t := by
  rw [crcCompute_eq] at e
  simp only [Except.ok.injEq, Prod.mk.injEq] at e
  exact e.2 ▸ observe_memory_wf h

theorem emitByte_memory_wf {b : Byte} {s t : State} (h : Memory.wf s) (e : emitByte b s = .ok t) : Memory.wf t := by
  unfold emitByte readOut at e
  split at e <;> simp [bind, Except.bind, pure, Except.pure] at e
  exact e ▸ h

theorem emit_memory_wf {bs : List Byte} {s t : State} (h : Memory.wf s) (e : emit bs s = .ok t) : Memory.wf t := by
  cases ho : s.out with
  | none =>
    cases bs with
    | nil => exact (Except.ok.inj e) ▸ h
    | cons b bs => simp [emit, emitByte, readOut, ho, bind, Except.bind] at e
  | some o =>
    rw [emit_some bs o s ho] at e
    exact (Except.ok.inj e) ▸ h

theorem respond_memory_wf {s t : State} (h : Memory.wf s) (e : respond s = .ok t) : Memory.wf t := by
  unfold respond readOut at e
  split at e <;> simp [bind, Except.bind, pure, Except.pure] at e
  exact e ▸ h

end Sys2Proof.Machine
end

