-- ==== Sys2Proof/Laws/PerInstr.lean ====
section
/-! SUPPORT. Statements about every instruction as syntax, one lemma per constructor. -/

namespace Sys2Proof.Laws

/-- The encoder writes an assigned selector (R60) with as many operands as the format names (R62, R77), and the selector
is one of the four kind bytes exactly for the builds (R155). -/
def SelectorAssigned.Statement (i : Instr) : Prop :=
  (∃ f, formatOf (encode i).op = some f ∧ (encode i).operands.length = (operandNames f).length) ∧
    (Machine.isBuild i = true ↔
      (encode i).op ∈ [Machine.kindLogin, Machine.kindLocation, Machine.kindAlarm, Machine.kindHeartbeat])

theorem SelectorAssigned.buildLogin (identity : List Byte) (modelCode tzH100 language serial : Int) :
    SelectorAssigned.Statement (.buildLogin identity modelCode tzH100 language serial) :=
  ⟨⟨.login, rfl, rfl⟩, by simp [Machine.isBuild, encode, Instr.selector, Machine.kindLogin]⟩

theorem SelectorAssigned.buildHeartbeat (terminalStatus : Int) (volts : Rat) (battery signal languagePort serial : Int) :
    SelectorAssigned.Statement (.buildHeartbeat terminalStatus volts battery signal languagePort serial) :=
  ⟨⟨.hb, rfl, rfl⟩, by simp [Machine.isBuild, encode, Instr.selector, Machine.kindHeartbeat]⟩

theorem SelectorAssigned.buildLocation (geo : GeoOperands) (acc uploadMode reupload odometer serial : Int) :
    SelectorAssigned.Statement (.buildLocation geo acc uploadMode reupload odometer serial) :=
  ⟨⟨.loc, rfl, rfl⟩, by simp [Machine.isBuild, encode, Instr.selector, Machine.kindLocation]⟩

theorem SelectorAssigned.buildAlarm (geo : GeoOperands) (terminalStatus battery signal alarmLanguage odometer serial : Int) :
    SelectorAssigned.Statement (.buildAlarm geo terminalStatus battery signal alarmLanguage odometer serial) :=
  ⟨⟨.alm, rfl, rfl⟩, by simp [Machine.isBuild, encode, Instr.selector, Machine.kindAlarm]⟩

theorem SelectorAssigned.checksum (span : List Byte) : SelectorAssigned.Statement (.checksum span) :=
  ⟨⟨.chk, rfl, rfl⟩, by
    simp [Machine.isBuild, encode, Instr.selector, Machine.kindLogin, Machine.kindLocation, Machine.kindAlarm,
      Machine.kindHeartbeat]⟩

end Sys2Proof.Laws
end

