-- ==== Sys2Proof/Laws/Step.lean ====
section
/-! SUPPORT. What a step can do, said once: the inversion lemmas of `step` and of `answer`. -/

namespace Sys2Proof.Machine

/-- The two reasons the request `r` is refused with `x`. -/
def RefusalReason (s : State) (r : Request) (x : Refusal) : Prop :=
  (x = .operandMismatch r.op ∧ decode r = .formatMismatch r.op) ∨
    ∃ span bound, x = .spanTooLong span.length bound ∧ decode r = .instr (.checksum span) ∧
      s.params.maxSpan = some bound ∧ bound < span.length

/-- A record is a mismatch of its own selector, and of no other. -/
theorem decode_formatMismatch {r : Request} {op : Byte} (h : decode r = .formatMismatch op) : op = r.op := by
  unfold decode at h
  split at h
  · cases h
  · split at h <;> cases h
    rfl

/-- What answering the request in progress can do: end it with one response, or refuse it for one of two reasons. -/
theorem answer_cases (s : State) (r : Request) (h : s.req = some r) :
    (∃ x, EndsWith s (answer s) x) ∨ ∃ x, answer s = .refused x ∧ RefusalReason s r x := by
  unfold answer readRequest
  rw [h]
  dsimp only
  cases hd : decode r with
  | instr i =>
    rcases exec_cases i s with h | ⟨span, b, rfl, hb, hl, h⟩
    · exact .inl h
    · exact .inr ⟨_, h, .inr ⟨_, _, rfl, hd, hb, hl⟩⟩
  | reserved op => exact .inl ⟨_, _, rfl, answers_finish s _ _⟩
  | formatMismatch op =>
    obtain rfl := decode_formatMismatch hd
    exact .inr ⟨_, rfl, .inl ⟨rfl, hd⟩⟩

/-- What a step can do: take a reset, wait, accept and answer the next request, or answer the request in progress. -/
theorem step_cases (s : State) :
    (∃ rest, s.inbox = .reset :: rest ∧ step s = .next (applyReset { s with inbox := rest })) ∨
      (s.req = none ∧ s.inbox = [] ∧ step s = .next s) ∨
      (∃ r rest, s.req = none ∧ s.inbox = .request r :: rest ∧ step s = answer (accept r { s with inbox := rest })) ∨
      (∃ r, s.req = some r ∧ s.inbox.head? ≠ some .reset ∧ step s = answer s) := by
  unfold step acceptNext
  rcases s with ⟨rom, c, out, req, status, params, trace, inbox, responses⟩
  rcases inbox with _ | ⟨_ | _, rest⟩ <;> rcases req with _ | r <;> simp

end Sys2Proof.Machine
end

