-- ==== Sys2Proof/Tests/Slice0.lean ====
section
/-! SUPPORT. Tests of one request or one function each, and a witness for the hypotheses of every statement. Expected
values are those of spec/95_test_vectors.md (the vectors named) or are worked out by hand from the rule named. -/

namespace Sys2Proof.Tests

set_option maxRecDepth 20000
set_option Elab.async false

open Sys2Proof.Machine

/-! ### Concrete states and requests -/

/-- The sample realisation of the vectors: `P_SATELLITES = 0xCF`, the span unbounded, no hook. -/
def demo : State := { State.reset with params := ⟨0xCF#8, none, false⟩ }

/-- A realisation that bounds the CHECKSUM span at 9 bytes and offers the hook. -/
def bounded : State := { State.reset with params := ⟨0xCF#8, some 9, true⟩ }

/-- The same state with one request as the host's next event. -/
def sending (r : Request) (s : State) : State := { s with inbox := [.request r] }

/-- The last response after an outcome, if it is a next state. -/
def lastResponse : Result → Option Response
  | .next t => t.responses.getLast?
  | .fault _ => none
  | .refused _ => none

/-- A run of one operation that leaves `r` as the last response ends with `r`. -/
theorem endsWith_of_lastResponse {i : Instr} {s : State} {r : Response} (h : lastResponse (exec i s) = some r) :
    EndsWith s (exec i s) r := by
  rcases exec_cases i s with ⟨r', t, ht, ha⟩ | ⟨span, b, -, -, -, hr⟩
  · rw [ht, lastResponse, ha.responses] at h
    simp only [List.getLast?_concat, Option.some.injEq] at h
    exact ⟨t, ht, h ▸ ha⟩
  · rw [hr, lastResponse] at h
    cases h

def checkString : List Byte :=
   [0x31#8, 0x32#8, 0x33#8, 0x34#8, 0x35#8, 0x36#8, 0x37#8, 0x38#8, 0x39#8]

def sampleIdentity : List Byte :=
   [0x31#8, 0x32#8, 0x33#8, 0x34#8, 0x35#8, 0x36#8, 0x37#8, 0x38#8, 0x39#8, 0x31#8, 0x32#8, 0x33#8, 0x34#8,
    0x35#8, 0x36#8]

/-- The operands G of 95_test_vectors.md 2.4; `mkRat 45 2` is 22.5 and `mkRat 1139 10` is 113.9. -/
def sampleGeo : GeoOperands where
  year := 24
  month := 11
  day := 11
  hour := 13
  minute := 45
  second := 30
  latDeg := mkRat 45 2
  lonDeg := mkRat 1139 10
  speed := 60
  courseStatus := 0x154C
  mcc := 452
  mnc := 4
  lac := 0x1234
  cellId := 12345

def sampleLogin : Instr := .buildLogin sampleIdentity 0x0242 800 2 1
def sampleHeartbeat : Instr := .buildHeartbeat 0x44 (mkRat 25 2) 4 3 2 7
def sampleLocation : Instr := .buildLocation sampleGeo 1 0 0 123456 2
def sampleAlarm : Instr := .buildAlarm sampleGeo 0x44 4 3 0x0102 123456 3

/-- V-SRC-2. -/
def loginFrame : List Byte :=
   [0x78#8, 0x78#8, 0x11#8, 0x01#8, 0x00#8, 0x00#8, 0x70#8, 0x48#8, 0x86#8, 0x0F#8, 0x91#8, 0x80#8, 0x02#8,
    0x42#8, 0x32#8, 0x02#8, 0x00#8, 0x01#8, 0x95#8, 0xC1#8, 0x0D#8, 0x0A#8]

/-- V-HB-1. -/
def heartbeatFrame : List Byte :=
   [0x78#8, 0x78#8, 0x0C#8, 0x13#8, 0x44#8, 0x04#8, 0xE2#8, 0x04#8, 0x03#8, 0x00#8, 0x02#8, 0x00#8, 0x07#8,
    0x5D#8, 0x0C#8, 0x0D#8, 0x0A#8]

/-- V-HB-2: the heartbeat with serial number 8. -/
def heartbeatFrame8 : List Byte :=
   [0x78#8, 0x78#8, 0x0C#8, 0x13#8, 0x44#8, 0x04#8, 0xE2#8, 0x04#8, 0x03#8, 0x00#8, 0x02#8, 0x00#8, 0x08#8,
    0xA5#8, 0xFB#8, 0x0D#8, 0x0A#8]

/-- V-LOC-1. -/
def locationFrame : List Byte :=
   [0x78#8, 0x78#8, 0x26#8, 0x22#8, 0x18#8, 0x0B#8, 0x0B#8, 0x0D#8, 0x2D#8, 0x1E#8, 0xCF#8, 0x02#8, 0x69#8,
    0xFB#8, 0x20#8, 0x0C#8, 0x38#8, 0x5B#8, 0x60#8, 0x3C#8, 0x15#8, 0x4C#8, 0x01#8, 0xC4#8, 0x04#8, 0x12#8,
    0x34#8, 0x00#8, 0x30#8, 0x39#8, 0x01#8, 0x00#8, 0x00#8, 0x00#8, 0x01#8, 0xE2#8, 0x40#8, 0x00#8, 0x02#8,
    0x78#8, 0x94#8, 0x0D#8, 0x0A#8]

/-- V-ALM-1. -/
def alarmFrame : List Byte :=
   [0x78#8, 0x78#8, 0x28#8, 0x26#8, 0x18#8, 0x0B#8, 0x0B#8, 0x0D#8, 0x2D#8, 0x1E#8, 0xCF#8, 0x02#8, 0x69#8,
    0xFB#8, 0x20#8, 0x0C#8, 0x38#8, 0x5B#8, 0x60#8, 0x3C#8, 0x15#8, 0x4C#8, 0x01#8, 0xC4#8, 0x04#8, 0x12#8,
    0x34#8, 0x00#8, 0x30#8, 0x39#8, 0x44#8, 0x04#8, 0x03#8, 0x01#8, 0x02#8, 0x00#8, 0x01#8, 0xE2#8, 0x40#8,
    0x00#8, 0x03#8, 0x01#8, 0x91#8, 0x0D#8, 0x0A#8]

/-! ### Decoding: records written out from R60 and R62 -/

theorem test_decode_checksum : decode ⟨0xC0#8, [.bytes [0x01#8, 0x02#8]]⟩ = .instr (.checksum [0x01#8, 0x02#8]) := by decide
/- P2, request 1. -/
theorem test_decode_login :
    decode ⟨0x01#8, [.bytes sampleIdentity, .int 578, .int 800, .int 2, .int 1]⟩ = .instr sampleLogin := by decide
/- P2, request 2. -/
theorem test_decode_heartbeat :
    decode ⟨0x13#8, [.int 68, .rat (mkRat 25 2), .int 4, .int 3, .int 2, .int 7]⟩ = .instr sampleHeartbeat := by decide
/- P3, request 1. -/
theorem test_decode_location :
    decode ⟨0x22#8, [.int 24, .int 11, .int 11, .int 13, .int 45, .int 30, .rat (mkRat 45 2), .rat (mkRat 1139 10), .int 60,
      .int 5452, .int 452, .int 4, .int 4660, .int 12345, .int 1, .int 0, .int 0, .int 123456, .int 2]⟩
      = .instr sampleLocation := by decide
theorem test_decode_alarm :
    decode ⟨0x26#8, [.int 24, .int 11, .int 11, .int 13, .int 45, .int 30, .rat (mkRat 45 2), .rat (mkRat 1139 10), .int 60,
      .int 5452, .int 452, .int 4, .int 4660, .int 12345, .int 68, .int 4, .int 3, .int 258, .int 123456, .int 3]⟩
      = .instr sampleAlarm := by decide
/- The operand names of R62 in their order: four integers separate `acc` from the course word of the shared block. -/
theorem test_decode_order : (operandNames .loc).idxOf "acc" = 14 ∧ (operandNames .alm).idxOf "terminal_status" = 14 := by decide
/- V-RES-2. -/
theorem test_decode_reserved : decode ⟨0x12#8, [.int 68]⟩ = .reserved 0x12#8 := by decide
/- R61: the selectors that are not assigned are 251 of the 256. -/
theorem test_reserved_count :
    ((List.range 256).filter fun n => (formatOf (BitVec.ofNat 8 n)).isNone).length = 251 := by decide +kernel
/- Log 2: a login record under the heartbeat's selector, and a record one operand short. -/
theorem test_decode_mismatch :
    decode ⟨0x13#8, sampleLogin.operands⟩ = .formatMismatch 0x13#8 ∧
      decode ⟨0x01#8, sampleLogin.operands.dropLast⟩ = .formatMismatch 0x01#8 := by decide
/- The rows of the opcode table, by their selector bits. -/
theorem test_table_words :
    decodeTableWord 8 0x01 = some (.buildLogin [] 0 0 0 0) ∧ decodeTableWord 8 0x13 = some (.buildHeartbeat 0 0 0 0 0 0) ∧
      decodeTableWord 8 0xC0 = some (.checksum []) ∧ decodeTableWord 8 0x02 = none := by decide
theorem test_table_words_geo :
    (decodeTableWord 8 0x22).map Instr.mnemonic = some "BUILD_LOCATION" ∧
      (decodeTableWord 8 0x26).map Instr.mnemonic = some "BUILD_ALARM" := by decide

/-! ### The operations: two each -/

/- V-LOGIN-1 is V-SRC-2. -/
theorem test_login_frame : lastResponse (exec sampleLogin demo) = some (.ok loginFrame) := by decide +kernel
/- V-LOGIN-6: the identity is checked before the language. -/
theorem test_login_identity_first :
    lastResponse (exec (.buildLogin [0x78#8] 0x0242 800 99 1) demo) = some (.err .invalidIdentity) := by decide +kernel
/- V-HB-6: 4.1 volts, exact. -/
theorem test_heartbeat_exact_volts :
    lastResponse (exec (.buildHeartbeat 0x44 (mkRat 41 10) 4 3 2 7) demo) = some (.ok
      [0x78#8, 0x78#8, 0x0C#8, 0x13#8, 0x44#8, 0x01#8, 0x9A#8, 0x04#8, 0x03#8, 0x00#8, 0x02#8, 0x00#8, 0x07#8,
       0x05#8, 0xCD#8, 0x0D#8, 0x0A#8]) := by
  decide +kernel
/- V-HB-7. -/
theorem test_heartbeat_volts_over :
    lastResponse (exec (.buildHeartbeat 0x44 (mkRat 65536 100) 4 3 2 7) demo)
      = some (.err (.fieldOutOfRange .voltage 0 65535)) := by decide +kernel
/- V-LOC-1. -/
theorem test_location_frame : lastResponse (exec sampleLocation demo) = some (.ok locationFrame) := by decide +kernel
/- V-LOC-6: the payload is checked before the serial number. -/
theorem test_location_payload_before_serial :
    lastResponse (exec (.buildLocation { sampleGeo with speed := 256 } 1 0 0 123456 70000) demo)
      = some (.err (.fieldOutOfRange .speed 0 255)) := by decide +kernel
/- V-ALM-1. -/
theorem test_alarm_frame : lastResponse (exec sampleAlarm demo) = some (.ok alarmFrame) := by decide +kernel
/- V-ALM-3: the first failing field in layout order. -/
theorem test_alarm_first_field :
    lastResponse (exec (.buildAlarm { sampleGeo with month := 256 } 0x44 300 3 0x0102 123456 3) demo)
      = some (.err (.fieldOutOfRange .month 0 255)) := by decide +kernel
/- V-CRC-8. -/
theorem test_checksum_check_value : lastResponse (exec (.checksum checkString) demo) = some (.ok [0x90#8, 0x6E#8]) := by
  decide +kernel
/- R10: one byte over the bound of a bounded realisation. -/
theorem test_checksum_over_bound :
    exec (.checksum (0x30#8 :: checkString)) bounded = .refused (.spanTooLong 10 9) := rfl

/-! ### The functions behind them -/

/- V-FLD-I6 and V-FLD-I4: the value mod 2^64. -/
theorem test_identity_low_bits :
    identityValue [0x31#8, 0x32#8, 0x33#8, 0x34#8, 0x35#8, 0x36#8, 0x37#8, 0x38#8,
      0x39#8, 0x30#8, 0x31#8, 0x32#8, 0x33#8, 0x34#8, 0x35#8, 0x36#8, 0x37#8, 0x38#8, 0x39#8, 0x30#8, 0x31#8]
      = 0xB14E9F812F366C35 := by decide +kernel
/- V-FLD-T2. -/
theorem test_tzlang_negative : tzlang (-500) 1 = .ok [0xE0#8, 0xC1#8] := by decide
/- V-FLD-C5. -/
theorem test_cell_drops_top_byte : cell3 0x01ABCDEF = .ok [0xAB#8, 0xCD#8, 0xEF#8] := by decide
/- V-FLD-L6, V-FLD-L7. -/
theorem test_latitude_below_zero :
    fixLat .latitude (mkRat (-1) 10000000) = .ok [0x00#8, 0x00#8, 0x00#8, 0x00#8] ∧
      fixLat .latitude (mkRat (-1) 1800000) = .error (.fieldOutOfRange .latitude 0 4294967295) := by decide +kernel
/- V-FLD-L8, V-FLD-L9. -/
theorem test_latitude_top :
    fixLat .latitude (mkRat 23860929 10000) = .ok [0xFF#8, 0xFF#8, 0xFF#8, 0xB4#8] ∧
      fixLat .latitude (mkRat 2386093 1000) = .error (.fieldOutOfRange .latitude 0 4294967295) := by decide +kernel
/- V-SRC-4. -/
theorem test_frame_length : frameLength 250 = .ok 255 ∧ frameLength 251 = .error (.frameTooLarge 256) := by decide
/- R200. -/
theorem test_status_codes :
    statusCode (statusOf (.ok [])) = 0 ∧ statusCode (statusOf (.err .invalidIdentity)) = 1 ∧
      statusCode (statusOf (.err (.fieldOutOfRange .speed 0 255))) = 2 ∧
      statusCode (statusOf (.err (.frameTooLarge 256))) = 3 ∧ verdictCode .checksumMismatch = some 4 ∧
      statusCode (statusOf (.err (.unsupportedOperation 0x00#8))) = 5 := by decide

/-! ### Steps -/

/- The opcode-table rows as the first step after reset: the empty identity is `InvalidIdentity` (V-FLD-I7), the others
end without an error. -/
theorem test_fetch_login :
    lastResponse (step (State.reset.withFetchWord 8 0x01)) = some (.err .invalidIdentity) := by decide +kernel
/- V-HB-4. -/
theorem test_fetch_heartbeat :
    lastResponse (step (State.reset.withFetchWord 8 0x13)) = some (.ok
      [0x78#8, 0x78#8, 0x0C#8, 0x13#8, 0x00#8, 0x00#8, 0x00#8, 0x00#8, 0x00#8, 0x00#8, 0x00#8, 0x00#8, 0x00#8,
       0x4B#8, 0x10#8, 0x0D#8, 0x0A#8]) := by
  decide +kernel
/- V-CRC-1. -/
theorem test_fetch_checksum : lastResponse (step (State.reset.withFetchWord 8 0xC0)) = some (.ok [0x00#8, 0x00#8]) := by
  decide +kernel
/- V-RES-1. -/
theorem test_step_reserved :
    lastResponse (step (sending ⟨0x00#8, sampleLocation.operands⟩ demo)) = some (.err (.unsupportedOperation 0x00#8)) := by
  decide +kernel
/- P5: the request cut off by reset gets no response. -/
theorem test_step_reset :
    step { accept (encode sampleHeartbeat) demo with inbox := [.reset] } = .next demo := rfl
/- R216, log 6: what the hook of a CHECKSUM sees. -/
theorem test_hook_trace :
    (match exec (.checksum [0x01#8]) bounded with
      | .next t => t.trace
      | .fault _ => []
      | .refused _ => []) = [.checksumInput [0x01#8]] := by decide +kernel

/-! ### The receiver -/

/- V-RX-1 and V-RX-7. -/
theorem test_frame_check_ok :
    frameCheck loginFrame = .frameOk ∧
      frameCheck [0x78#8, 0x78#8, 0x05#8, 0x01#8, 0x00#8, 0x00#8, 0xC8#8, 0x55#8, 0x0D#8, 0x0A#8] = .frameOk := by
  decide +kernel
/- V-RX-2 and V-RX-4. -/
theorem test_frame_check_bad :
    frameCheck (loginFrame.set 11 0x81#8) = .checksumMismatch ∧ frameCheck (loginFrame.set 2 0x12#8) = .malformedFrame := by
  decide +kernel
/- R182 for V-HB-1. -/
theorem test_decode_frame : decodeFrame heartbeatFrame = some (.heartbeat 0x44 1250 4 3 2 7) := by decide +kernel
/- V-RX-8 and V-RX-9. -/
theorem test_ack_kind :
    ackKind [0x78#8, 0x78#8, 0x05#8, 0x01#8, 0x00#8, 0x01#8, 0xD9#8, 0xDC#8, 0x0D#8, 0x0A#8] = some 0x01#8 ∧
      ackKind [0x78#8, 0x78#8, 0x05#8] = none := by decide

/-! ### WellFormed: an ill-formed request for each check, which the check refuses -/

theorem smoke_accepts : sampleLogin.wellFormed ∧ sampleHeartbeat.wellFormed ∧ sampleLocation.wellFormed ∧ sampleAlarm.wellFormed ∧
    (Instr.checksum []).wellFormed := by decide +kernel

/-- Whether the check refuses a request, naming this field and these bounds. -/
def refusesField (i : Instr) (id : FieldId) (lo hi : Int) : Bool := i.firstError = some (.fieldOutOfRange id lo hi)

theorem smoke_identity :
    (Instr.buildLogin [] 0 0 0 0).firstError = some .invalidIdentity ∧
      (Instr.buildLogin [0x31#8, 0x3A#8] 0 0 0 0).firstError = some .invalidIdentity := by decide +kernel
theorem smoke_login :
    refusesField (.buildLogin [0x30#8] 65536 0 0 0) .modelCode 0 65535 ∧
    refusesField (.buildLogin [0x30#8] 0 4096 0 0) .tzH100 (-2048) 4095 ∧
    refusesField (.buildLogin [0x30#8] 0 (-2049) 0 0) .tzH100 (-2048) 4095 ∧
    refusesField (.buildLogin [0x30#8] 0 (-2048) 16 0) .language 0 15 ∧
    refusesField (.buildLogin [0x30#8] 0 0 0 65536) .serial 0 65535 := by
  decide +kernel
theorem smoke_heartbeat :
    refusesField (.buildHeartbeat 256 0 0 0 0 0) .terminalStatus 0 255 ∧
    refusesField (.buildHeartbeat 0 (mkRat 65536 100) 0 0 0 0) .voltage 0 65535 ∧
    refusesField (.buildHeartbeat 0 0 (-1) 0 0 0) .battery 0 255 ∧
    refusesField (.buildHeartbeat 0 0 0 256 0 0) .signal 0 255 ∧
    refusesField (.buildHeartbeat 0 0 0 0 65536 0) .languagePort 0 65535 ∧
    refusesField (.buildHeartbeat 0 0 0 0 0 (-1)) .serial 0 65535 := by
  decide +kernel
theorem smoke_location_geo :
    refusesField (.buildLocation { sampleGeo with year := 2024 } 0 0 0 0 0) .year 0 255 ∧
    refusesField (.buildLocation { sampleGeo with month := 256 } 0 0 0 0 0) .month 0 255 ∧
    refusesField (.buildLocation { sampleGeo with day := -1 } 0 0 0 0 0) .day 0 255 ∧
    refusesField (.buildLocation { sampleGeo with hour := 256 } 0 0 0 0 0) .hour 0 255 ∧
    refusesField (.buildLocation { sampleGeo with minute := 256 } 0 0 0 0 0) .minute 0 255 ∧
    refusesField (.buildLocation { sampleGeo with second := 256 } 0 0 0 0 0) .second 0 255 ∧
    refusesField (.buildLocation { sampleGeo with latDeg := mkRat (-1) 1800000 } 0 0 0 0 0) .latitude 0 4294967295 ∧
    refusesField (.buildLocation { sampleGeo with lonDeg := 2386093 } 0 0 0 0 0) .longitude 0 4294967295 ∧
    refusesField (.buildLocation { sampleGeo with speed := 256 } 0 0 0 0 0) .speed 0 255 ∧
    refusesField (.buildLocation { sampleGeo with courseStatus := 65536 } 0 0 0 0 0) .courseStatus 0 65535 ∧
    refusesField (.buildLocation { sampleGeo with mcc := 65536 } 0 0 0 0 0) .mcc 0 65535 ∧
    refusesField (.buildLocation { sampleGeo with mnc := 256 } 0 0 0 0 0) .mnc 0 255 ∧
    refusesField (.buildLocation { sampleGeo with lac := 65536 } 0 0 0 0 0) .lac 0 65535 ∧
    refusesField (.buildLocation { sampleGeo with cellId := 4294967296 } 0 0 0 0 0) .cellId 0 4294967295 := by
  decide +kernel
theorem smoke_alarm_geo :
    refusesField (.buildAlarm { sampleGeo with year := 2024 } 0 0 0 0 0 0) .year 0 255 ∧
    refusesField (.buildAlarm { sampleGeo with month := 256 } 0 0 0 0 0 0) .month 0 255 ∧
    refusesField (.buildAlarm { sampleGeo with day := -1 } 0 0 0 0 0 0) .day 0 255 ∧
    refusesField (.buildAlarm { sampleGeo with hour := 256 } 0 0 0 0 0 0) .hour 0 255 ∧
    refusesField (.buildAlarm { sampleGeo with minute := 256 } 0 0 0 0 0 0) .minute 0 255 ∧
    refusesField (.buildAlarm { sampleGeo with second := 256 } 0 0 0 0 0 0) .second 0 255 ∧
    refusesField (.buildAlarm { sampleGeo with latDeg := mkRat (-1) 1800000 } 0 0 0 0 0 0) .latitude 0 4294967295 ∧
    refusesField (.buildAlarm { sampleGeo with lonDeg := 2386093 } 0 0 0 0 0 0) .longitude 0 4294967295 ∧
    refusesField (.buildAlarm { sampleGeo with speed := 256 } 0 0 0 0 0 0) .speed 0 255 ∧
    refusesField (.buildAlarm { sampleGeo with courseStatus := 65536 } 0 0 0 0 0 0) .courseStatus 0 65535 ∧
    refusesField (.buildAlarm { sampleGeo with mcc := 65536 } 0 0 0 0 0 0) .mcc 0 65535 ∧
    refusesField (.buildAlarm { sampleGeo with mnc := 256 } 0 0 0 0 0 0) .mnc 0 255 ∧
    refusesField (.buildAlarm { sampleGeo with lac := 65536 } 0 0 0 0 0 0) .lac 0 65535 ∧
    refusesField (.buildAlarm { sampleGeo with cellId := 4294967296 } 0 0 0 0 0 0) .cellId 0 4294967295 := by
  decide +kernel
theorem smoke_location :
    refusesField (.buildLocation sampleGeo 256 0 0 0 0) .acc 0 255 ∧
    refusesField (.buildLocation sampleGeo 0 256 0 0 0) .uploadMode 0 255 ∧
    refusesField (.buildLocation sampleGeo 0 0 256 0 0) .reupload 0 255 ∧
    refusesField (.buildLocation sampleGeo 0 0 0 4294967296 0) .odometer 0 4294967295 ∧
    refusesField (.buildLocation sampleGeo 0 0 0 0 65536) .serial 0 65535 := by
  decide +kernel
theorem smoke_alarm :
    refusesField (.buildAlarm sampleGeo 256 0 0 0 0 0) .terminalStatus 0 255 ∧
    refusesField (.buildAlarm sampleGeo 0 256 0 0 0 0) .battery 0 255 ∧
    refusesField (.buildAlarm sampleGeo 0 0 256 0 0 0) .signal 0 255 ∧
    refusesField (.buildAlarm sampleGeo 0 0 0 65536 0 0) .alarmLanguage 0 65535 ∧
    refusesField (.buildAlarm sampleGeo 0 0 0 0 4294967296 0) .odometer 0 4294967295 ∧
    refusesField (.buildAlarm sampleGeo 0 0 0 0 0 65536) .serial 0 65535 := by
  decide +kernel

/-! ### Witnesses: a state and operands that meet the hypotheses of each statement, at the ends of its clauses -/

theorem demo_wf : Memory.wf demo := rfl

theorem login_ends : EndsWith demo (exec sampleLogin demo) (.ok loginFrame) := endsWith_of_lastResponse test_login_frame
theorem location_ends : EndsWith demo (exec sampleLocation demo) (.ok locationFrame) :=
  endsWith_of_lastResponse test_location_frame
theorem alarm_ends : EndsWith demo (exec sampleAlarm demo) (.ok alarmFrame) := endsWith_of_lastResponse test_alarm_frame
theorem heartbeat_ends : EndsWith demo (exec sampleHeartbeat demo) (.ok heartbeatFrame) :=
  endsWith_of_lastResponse (by decide +kernel)
theorem heartbeat_ends_8 : EndsWith demo (exec (withSerial 8 sampleHeartbeat) demo) (.ok heartbeatFrame8) :=
  endsWith_of_lastResponse (by decide +kernel)

/-- Each build ends with a frame on a state whose memory is well formed. -/
theorem builds_end :
    ∀ p ∈ [(sampleLogin, loginFrame), (sampleHeartbeat, heartbeatFrame), (sampleLocation, locationFrame),
        (sampleAlarm, alarmFrame)],
      isBuild p.1 ∧ Memory.wf demo ∧ EndsWith demo (exec p.1 demo) (.ok p.2) := by
  intro p hp
  simp only [List.mem_cons, List.not_mem_nil, or_false] at hp
  rcases hp with rfl | rfl | rfl | rfl
  · exact ⟨rfl, demo_wf, login_ends⟩
  · exact ⟨rfl, demo_wf, heartbeat_ends⟩
  · exact ⟨rfl, demo_wf, location_ends⟩
  · exact ⟨rfl, demo_wf, alarm_ends⟩

theorem witness_ChecksumAnswersCrcOfSpan :
    SpanAccepted demo.params 300 ∧ SpanAccepted bounded.params 0 ∧ SpanAccepted bounded.params 9 := by
  simp [SpanAccepted, demo, bounded]
theorem witness_ChecksumOfCheckString : Memory.wf bounded ∧ SpanAccepted bounded.params 9 :=
  ⟨rfl, witness_ChecksumAnswersCrcOfSpan.2.2⟩
theorem witness_ChecksumDependsOnByteOrder : Memory.wf bounded ∧ SpanAccepted bounded.params 2 :=
  ⟨rfl, by simp [SpanAccepted, bounded]⟩
/- Ten bytes are refused under the bound 9, nine are accepted. -/
theorem witness_ChecksumRefusesSpansOverTheBound :
    (bounded.params.maxSpan = some 9 ∧ 9 < (0x30#8 :: checkString).length) ∧
      SpanAccepted bounded.params checkString.length :=
  ⟨by decide, witness_ChecksumAnswersCrcOfSpan.2.2⟩
theorem witness_BigEndianBytesReadBack : 65535 < 256 ^ 2 ∧ 1 < 2 ∧ 0 < 256 ^ 0 := by decide
theorem witness_UnsignedFieldNeverWraps :
    ((0 : Int) ≤ 0 ∧ (0 : Int) ≤ 2 ^ (8 * 1) - 1 ∧ (255 : Int) ≤ 2 ^ (8 * 1) - 1) ∧
      ((-1 : Int) < 0 ∧ (256 : Int) > 2 ^ (8 * 1) - 1) ∧ ((0 : Int) ≤ 65535 ∧ (65536 : Int) > 65535) := by decide
/- The digits at both ends, and the bytes just outside. -/
theorem witness_IdentityKeepsTheLow64Bits :
    ([0x30#8, 0x39#8] ≠ [] ∧ ∀ ch ∈ [0x30#8, 0x39#8], 0x30 ≤ ch.toNat ∧ ch.toNat ≤ 0x39) ∧
      (∃ ch ∈ [0x2F#8], ch.toNat < 0x30 ∨ 0x39 < ch.toNat) ∧ (∃ ch ∈ [0x3A#8], ch.toNat < 0x30 ∨ 0x39 < ch.toNat) := by
  decide
theorem witness_TimeZoneWordIsTwosComplement :
    ((-2048 : Int) ≤ -2048 ∧ (-2048 : Int) < 0) ∧ ((-2048 : Int) ≤ -1 ∧ (-1 : Int) < 0) := by decide
theorem witness_CellIdKeepsTheLow24Bits :
    ((0 : Int) ≤ 0 ∧ (0 : Int) ≤ 4294967295) ∧ ((0 : Int) ≤ 4294967295 ∧ (4294967295 : Int) ≤ 4294967295) ∧
      (-1 : Int) < 0 ∧ (4294967296 : Int) > 4294967295 := by decide
/- A payload of 250 bytes still fits the length byte, one of 251 does not. -/
theorem witness_RegionCarriesLengthKindPayloadSerial :
    ((0 : Int) ≤ 0 ∧ (0 : Int) ≤ 65535 ∧ (0 : Int) ≤ 65535) ∧
      (List.replicate 250 0x00#8).length + 5 ≤ 255 ∧ (List.replicate 251 0x00#8).length + 5 > 255 := by
  simp
theorem witness_FrameTooLargeIsUnreachable :
    (∃ p, serializeLogin sampleIdentity 0x0242 800 2 = .ok p) ∧
      (∃ p, serializeLocation 0xCF#8 sampleGeo 1 0 0 123456 = .ok p) ∧
      (∃ p, serializeAlarm 0xCF#8 sampleGeo 0x44 4 3 0x0102 123456 = .ok p) ∧
      (∃ p, serializeHeartbeat 0x44 (mkRat 25 2) 4 3 2 = .ok p) ∧ ∃ t, exec sampleLogin demo = .next t :=
  ⟨⟨slice loginFrame 4 16, by decide +kernel⟩, ⟨slice locationFrame 4 37, by decide +kernel⟩,
    ⟨slice alarmFrame 4 39, by decide +kernel⟩, ⟨slice heartbeatFrame 4 11, by decide +kernel⟩, login_ends.imp fun _ h => h.1⟩
/- Every operand at an end of its range, and one past it. -/
theorem witness_BuildLoginAnswersFrameOrFirstError :
    (Instr.buildLogin [0x30#8] 65535 (-2048) 15 65535).wellFormed ∧
      (Instr.buildLogin [0x39#8] 65535 4095 0 65536).firstError = some (.fieldOutOfRange .serial 0 65535) ∧
      (Instr.buildLogin [] 0 0 0 0).firstError = some .invalidIdentity := by decide +kernel
theorem witness_BuildLocationAnswersFrameOrFirstError :
    (Instr.buildLocation sampleGeo 255 255 255 4294967295 65535).wellFormed ∧
      (Instr.buildLocation sampleGeo 255 255 255 4294967295 65536).firstError = some (.fieldOutOfRange .serial 0 65535) := by
  decide +kernel
theorem witness_BuildAlarmAnswersFrameOrFirstError :
    (Instr.buildAlarm sampleGeo 255 255 255 65535 4294967295 65535).wellFormed ∧
      (Instr.buildAlarm sampleGeo 255 255 255 65535 4294967295 (-1)).firstError = some (.fieldOutOfRange .serial 0 65535) := by
  decide +kernel
theorem witness_BuildHeartbeatAnswersFrameOrFirstError :
    (Instr.buildHeartbeat 255 (mkRat 65535 100) 255 255 65535 65535).wellFormed ∧
      (Instr.buildHeartbeat 255 (mkRat 65536 100) 255 255 65535 65535).firstError
        = some (.fieldOutOfRange .voltage 0 65535) := by decide +kernel
theorem witness_BuildWorkedExamples : Memory.wf demo ∧ demo.params.satellites = 0xCF#8 := ⟨rfl, rfl⟩
theorem witness_BuildSucceedsExactlyWhenWellFormed :
    (isBuild sampleLogin ∧ sampleLogin.wellFormed) ∧
      (isBuild (withSerial 65536 sampleLogin) ∧ ¬ (withSerial 65536 sampleLogin).wellFormed) := by decide +kernel
theorem witness_FirstErrorInPriorityOrderIsReported :
    (0x00#8 ∉ [0x01#8, 0x13#8, 0x22#8, 0x26#8, 0xC0#8] ∧ (accept ⟨0x00#8, []⟩ demo).inbox = [] ∧
      (accept ⟨0x00#8, []⟩ demo).req = some ⟨0x00#8, []⟩) ∧
      (Instr.buildLogin [] 0 0 0 65536).firstError = some .invalidIdentity ∧
      EndsWith demo (exec (.buildLogin [] 0 0 0 65536) demo) (.err .invalidIdentity) ∧
      ((-1 : Int) < 0 ∨ (-1 : Int) > 65535) ∧ ((65536 : Int) < 0 ∨ (65536 : Int) > 65535) :=
  ⟨by decide +kernel, by decide +kernel, endsWith_of_lastResponse (by decide +kernel), by decide, by decide⟩
theorem witness_FrameLengthByteIsLengthLessFive :
    isBuild sampleHeartbeat ∧ EndsWith demo (exec sampleHeartbeat demo) (.ok heartbeatFrame) := ⟨rfl, heartbeat_ends⟩
theorem witness_FrameChecksumMatchesItsRegion :
    isBuild sampleAlarm ∧ Memory.wf demo ∧ EndsWith demo (exec sampleAlarm demo) (.ok alarmFrame) :=
  ⟨rfl, demo_wf, alarm_ends⟩
theorem witness_FrameSizesAreFixedPerKind :
    isBuild sampleLocation ∧ EndsWith demo (exec sampleLocation demo) (.ok locationFrame) := ⟨rfl, location_ends⟩
theorem witness_FrameMarkersAndKindByte :
    isBuild sampleLogin ∧ EndsWith demo (exec sampleLogin demo) (.ok loginFrame) := ⟨rfl, login_ends⟩
theorem witness_SatelliteByteIsTheParameter :
    EndsWith demo (exec (.buildLocation sampleGeo 1 0 0 123456 2) demo) (.ok locationFrame) ∧
      EndsWith demo (exec (.buildAlarm sampleGeo 0x44 4 3 0x0102 123456 3) demo) (.ok alarmFrame) :=
  ⟨location_ends, alarm_ends⟩
theorem witness_AlarmSharesTheLocationBlock :
    EndsWith demo (exec (.buildLocation sampleGeo 1 0 0 123456 2) demo) (.ok locationFrame) ∧
      EndsWith demo (exec (.buildAlarm sampleGeo 0x44 4 3 0x0102 123456 3) demo) (.ok alarmFrame) :=
  ⟨location_ends, alarm_ends⟩
/- V-SRC-5. -/
theorem witness_SerialChangesOnlySerialAndChecksum :
    isBuild sampleHeartbeat ∧ EndsWith demo (exec (withSerial 7 sampleHeartbeat) demo) (.ok heartbeatFrame) ∧
      EndsWith demo (exec (withSerial 8 sampleHeartbeat) demo) (.ok heartbeatFrame8) ∧ 10 < 4 + payloadLength sampleHeartbeat ∧
      8 + payloadLength sampleHeartbeat ≤ 15 := ⟨rfl, heartbeat_ends, heartbeat_ends_8, by decide, by decide⟩
theorem witness_EveryFramePassesTheFrameCheck :
    isBuild sampleLocation ∧ Memory.wf demo ∧ EndsWith demo (exec sampleLocation demo) (.ok locationFrame) :=
  ⟨rfl, demo_wf, location_ends⟩
theorem witness_DecodedFrameIsTheCanonicalRequest :
    isBuild sampleLogin ∧ Memory.wf demo ∧ EndsWith demo (exec sampleLogin demo) (.ok loginFrame) :=
  ⟨rfl, demo_wf, login_ends⟩
/- The first and the last offset of the range: the kind byte and the serial number's low byte. -/
theorem witness_SingleByteCorruptionIsDetected :
    frameCheck loginFrame = .frameOk ∧ (3 ≤ 3 ∧ 3 < loginFrame.length - 4 ∧ loginFrame[3]? ≠ some 0x00#8) ∧
      (3 ≤ 17 ∧ 17 < loginFrame.length - 4 ∧ loginFrame[17]? ≠ some 0x00#8) := by decide +kernel
theorem witness_ChecksumMismatchCondition :
    frameCheck (loginFrame.set 11 0x81#8) = .checksumMismatch ∧
      ((loginFrame.set 2 0x12#8).getD 2 0).toNat ≠ (loginFrame.set 2 0x12#8).length - 5 := by decide +kernel
theorem witness_AckKindIsTheFourthByte : 4 ≤ (loginFrame.take 4).length ∧ (loginFrame.take 3).length < 4 := by decide
theorem witness_ChecksumOverRegionConfirmsFrame :
    isBuild sampleLocation ∧ Memory.wf demo ∧ Memory.wf demo ∧ EndsWith demo (exec sampleLocation demo) (.ok locationFrame) ∧
      SpanAccepted demo.params (locationFrame.length - 6) :=
  ⟨rfl, demo_wf, demo_wf, location_ends, by simp [SpanAccepted, demo]⟩
theorem witness_EncodeOfDecodeIsTheRecord : decode ⟨0xC0#8, [.bytes [0x01#8]]⟩ = .instr (.checksum [0x01#8]) := by decide
theorem witness_StepRunsTheDecodedOperation :
    ((sending (encode sampleLogin) demo).req = none ∧
      (sending (encode sampleLogin) demo).inbox = .request (encode sampleLogin) :: [] ∧
      decode (encode sampleLogin) = .instr sampleLogin) ∧
    ((accept (encode sampleLogin) demo).req = some (encode sampleLogin) ∧
      (accept (encode sampleLogin) demo).inbox.head? ≠ some .reset) := ⟨⟨rfl, rfl, rfl⟩, rfl, by decide +kernel⟩
theorem witness_ReservedSelectorIsUnsupported :
    (0x00#8 ∉ [0x01#8, 0x13#8, 0x22#8, 0x26#8, 0xC0#8] ∧ 0xFF#8 ∉ [0x01#8, 0x13#8, 0x22#8, 0x26#8, 0xC0#8]) ∧
      (sending ⟨0xFF#8, sampleLocation.operands⟩ demo).req = none ∧
      (sending ⟨0xFF#8, sampleLocation.operands⟩ demo).inbox = .request ⟨0xFF#8, sampleLocation.operands⟩ :: [] :=
  ⟨by decide, rfl, rfl⟩
theorem witness_MismatchedRecordIsRefused :
    formatOf 0xC0#8 ≠ none ∧ (∀ i, encode i ≠ ⟨0xC0#8, []⟩) ∧ (sending ⟨0xC0#8, []⟩ demo).req = none ∧
      (sending ⟨0xC0#8, []⟩ demo).inbox = .request ⟨0xC0#8, []⟩ :: [] := by
  refine ⟨by decide, fun i h => ?_, rfl, rfl⟩
  cases i <;> simp [encode, Instr.operands, GeoOperands.operands] at h
theorem witness_ResetStateAndResetEvent :
    { accept (encode sampleHeartbeat) demo with inbox := [.reset, .request (encode sampleHeartbeat)] }.inbox
      = .reset :: [.request (encode sampleHeartbeat)] := rfl
theorem witness_IdleBlockWaits : demo.req = none ∧ demo.inbox = [] := ⟨rfl, rfl⟩
/- One run per operation: each of them answers a next state. -/
theorem witness_EveryOperationAnswersOnceAndChangesNothingElse :
    (∃ t, exec sampleLogin demo = .next t) ∧ (∃ t, exec sampleHeartbeat demo = .next t) ∧
      (∃ t, exec sampleLocation demo = .next t) ∧ (∃ t, exec sampleAlarm demo = .next t) ∧
      (∃ t, exec (.checksum checkString) demo = .next t) ∧ demo.params.hook = false :=
  ⟨login_ends.imp fun _ h => h.1, heartbeat_ends.imp fun _ h => h.1, location_ends.imp fun _ h => h.1,
    alarm_ends.imp fun _ h => h.1, (endsWith_of_lastResponse test_checksum_check_value).imp fun _ h => h.1, rfl⟩
theorem witness_StepRefusesOnlyForTwoReasons :
    step (sending ⟨0xC0#8, []⟩ demo) = .refused (.operandMismatch 0xC0#8) ∧
      step (accept ⟨0xC0#8, []⟩ demo) = .refused (.operandMismatch 0xC0#8) ∧
      step (sending (encode (.checksum (0x30#8 :: checkString))) bounded) = .refused (.spanTooLong 10 9) :=
  ⟨rfl, rfl, rfl⟩
theorem witness_ResponseDependsOnRequestRomAndParameters :
    demo.rom = (sending ⟨0x00#8, []⟩ demo).rom ∧ demo.params.satellites = (sending ⟨0x00#8, []⟩ demo).params.satellites ∧
      demo.params.maxSpan = (sending ⟨0x00#8, []⟩ demo).params.maxSpan ∧
      EndsWith demo (exec sampleLogin demo) (.ok loginFrame) := ⟨rfl, rfl, rfl, login_ends⟩
theorem witness_HookObservesOnly :
    (∃ t, exec sampleLogin demo = .next t) ∧ demo.params.hook = false := ⟨login_ends.imp fun _ h => h.1, rfl⟩
theorem witness_EveryStepKeepsTheInvariant :
    MachineInvariant (sending ⟨0x00#8, []⟩ demo) ∧ ∃ t, step (sending ⟨0x00#8, []⟩ demo) = .next t :=
  ⟨⟨rfl, rfl, rfl, by simp [sending, demo], by simp [sending, demo]⟩, _, rfl⟩
/- The program P4's last two requests, the second with a reserved selector. -/
theorem witness_ProgramRunAnswersEachRequestAsIfAlone :
    Idle demo ∧ [HostEvent.request (encode sampleHeartbeat), .request ⟨0x00#8, []⟩]
        = [encode sampleHeartbeat, ⟨0x00#8, []⟩].map .request ∧
      ∀ r ∈ [encode sampleHeartbeat, ⟨0x00#8, []⟩], (responseAlone demo.rom demo.params r).isSome :=
  ⟨⟨rfl, rfl, rfl⟩, rfl, by decide +kernel⟩

end Sys2Proof.Tests
end

/-! The big-endian encoding and its inverse (R11), the bound on a CHECKSUM span (R10), and the refusals of a step (logs 2
and 5). -/

namespace Sys2Proof.Machine

/-! ### The big-endian encoding -/

/-- `fromBe` with an accumulator, generalised for the induction: what has been read moves up by one byte per byte left. -/
theorem foldl_fromBe_step (bs : List Byte) (v : Nat) :
    bs.foldl (fun v b => 256 * v + b.toNat) v = v * 256 ^ bs.length + fromBe bs := by
  unfold fromBe
  induction bs generalizing v with
  | nil => simp
  | cons b bs ih =>
    simp only [List.foldl_cons, List.length_cons]
    rw [ih (256 * v + b.toNat), ih (256 * 0 + b.toNat)]
    ring

@[simp] theorem fromBe_nil : fromBe [] = 0 := rfl

theorem fromBe_cons (b : Byte) (bs : List Byte) : fromBe (b :: bs) = b.toNat * 256 ^ bs.length + fromBe bs := by
  simpa [fromBe] using foldl_fromBe_step bs b.toNat

/-- Reading back `n` big-endian bytes gives the value modulo `256 ^ n`, whether or not it fits. -/
theorem fromBe_be (n v : Nat) : fromBe (be n v) = v % 256 ^ n := by
  induction n with
  | zero => simp [Nat.mod_one]
  | succ n ih =>
    have digit : (BitVec.ofNat 8 (v >>> (8 * n))).toNat = v / 256 ^ n % 256 := by
      rw [BitVec.toNat_ofNat, Nat.shiftRight_eq_div_pow, pow_mul]; norm_num
    calc fromBe (be (n + 1) v)
        = v / 256 ^ n % 256 * 256 ^ n + v % 256 ^ n := by rw [be_succ, fromBe_cons, be_length, digit, ih]
      _ = v % (256 ^ n * 256) := by rw [Nat.mod_mul]; ring
      _ = v % 256 ^ (n + 1) := by rw [pow_succ]

theorem fromBe_be_of_lt {n v : Nat} (h : v < 256 ^ n) : fromBe (be n v) = v := by
  rw [fromBe_be, Nat.mod_eq_of_lt h]

theorem getElem?_be (n v k : Nat) (h : k < n) :
    (be n v)[k]? = some (BitVec.ofNat 8 (v >>> (8 * (n - 1 - k)))) := by
  induction n generalizing k with
  | zero => omega
  | succ n ih =>
    rw [be_succ]
    cases k with
    | zero => simp
    | succ k =>
      have index : n + 1 - 1 - (k + 1) = n - 1 - k := by omega
      rw [List.getElem?_cons_succ, ih k (by omega), index]

/-- Settles O9, by induction on the number of bytes: the first byte is the value's most significant digit in base 256. -/
theorem bigEndianBytesReadBack : Obligations.BigEndianBytesReadBack :=
  fun n v fits => ⟨be_length n v, fromBe_be_of_lt fits, getElem?_be n v⟩

/-! ### The bound on a CHECKSUM span -/

theorem exec_checksum (span : List Byte) (s : State) : exec (.checksum span) s = execChecksum span s := rfl

/-- The counterpart of `spanBoundExceeded_none`: a span is over a bound exactly when the realisation has it. -/
theorem spanBoundExceeded_some {p : Params} {span : List Byte} {b : Nat} :
    spanBoundExceeded p span = some b ↔ p.maxSpan = some b ∧ b < span.length := by
  unfold spanBoundExceeded
  cases p.maxSpan with
  | none => simp
  | some bound =>
    by_cases exceeds : bound < span.length
    · simpa [exceeds] using fun same : bound = b => same ▸ exceeds
    · simpa [exceeds] using fun same : bound = b => Nat.not_lt.mp (same ▸ exceeds)

theorem exec_checksum_over_bound {span : List Byte} {s : State} {bound : Nat} (hbound : s.params.maxSpan = some bound)
    (hover : bound < span.length) : exec (.checksum span) s = .refused (.spanTooLong span.length bound) := by
  rw [exec_checksum, execChecksum_refused span s bound (spanBoundExceeded_some.mpr ⟨hbound, hover⟩)]

theorem exec_checksum_ends_of_accepted {span : List Byte} {s : State} (h : SpanAccepted s.params span.length) :
    ∃ r, EndsWith s (exec (.checksum span) s) r := by
  rcases exec_cases (.checksum span) s with ends | ⟨span', bound, same, hbound, hover, -⟩
  · exact ends
  · cases same
    exact absurd hover (Nat.not_lt.mpr (h bound hbound))

/-- Settles O7: `exec_cases` leaves CHECKSUM only the refusal, which an accepted span rules out. -/
theorem checksumRefusesSpansOverTheBound : Obligations.ChecksumRefusesSpansOverTheBound :=
  fun _ _ => ⟨fun _ => exec_checksum_over_bound, exec_checksum_ends_of_accepted⟩

/-! ### The refusals of a step -/

/-- The decoder reads back every record that the encoder writes (R60, R62). -/
theorem decode_encode (i : Instr) : decode (encode i) = .instr i := by
  cases i with
  | buildLogin | buildHeartbeat | buildLocation | buildAlarm | checksum => rfl

theorem formatOf_ne_none_of_formatMismatch {r : Request} {op : Byte} (h : decode r = .formatMismatch op) :
    formatOf r.op ≠ none := by
  intro reserved
  simp [decode, reserved] at h

/-- A mismatched record is no operation's: the decoder would have read the operation back. -/
theorem encode_ne_of_formatMismatch {r : Request} {op : Byte} (h : decode r = .formatMismatch op) (i : Instr) :
    encode i ≠ r := by
  rintro rfl
  rw [decode_encode] at h
  cases h

theorem EndsWith.ne_refused {s : State} {execution : Result} {r : Response} (h : EndsWith s execution r) (x : Refusal) :
    execution ≠ .refused x := by
  obtain ⟨t, rfl, -⟩ := h
  exact nofun

/-- `answer_cases` for an answer that is known to refuse. -/
theorem refusalReason_of_answer_refused {s : State} {r : Request} {x : Refusal} (hreq : s.req = some r)
    (h : answer s = .refused x) : RefusalReason s r x := by
  rcases answer_cases s r hreq with ⟨_, ends⟩ | ⟨y, hy, reason⟩
  · exact absurd h (ends.ne_refused x)
  · cases hy.symm.trans h
    exact reason

/-- A step that refuses has a request to answer, in progress or the next one sent, and a reason to refuse it. -/
theorem refusalReason_of_step_refused {s : State} {x : Refusal} (h : step s = .refused x) :
    ∃ r, (s.req = some r ∨ s.req = none ∧ s.inbox.head? = some (.request r)) ∧ RefusalReason s r x := by
  rcases step_cases s with ⟨_, -, resets⟩ | ⟨-, -, waits⟩ | ⟨r, rest, hreq, hinbox, answers⟩ | ⟨r, hreq, -, answers⟩
  · cases resets.symm.trans h
  · cases waits.symm.trans h
  · -- Accepting the request leaves the parameters, the only field that a reason reads.
    have reason : RefusalReason (accept r { s with inbox := rest }) r x :=
      refusalReason_of_answer_refused (accept_req _ r) (answers.symm.trans h)
    exact ⟨r, .inr ⟨hreq, by rw [hinbox, List.head?_cons]⟩, reason⟩
  · exact ⟨r, .inl hreq, refusalReason_of_answer_refused hreq (answers.symm.trans h)⟩

/-- Settles O47: the two reasons of `RefusalReason`, the mismatch said of the record itself. -/
theorem stepRefusesOnlyForTwoReasons : Obligations.StepRefusesOnlyForTwoReasons := by
  intro s x h
  obtain ⟨r, request, ⟨hx, mismatch⟩ | overBound⟩ := refusalReason_of_step_refused h
  · exact ⟨r, request, .inl ⟨hx, formatOf_ne_none_of_formatMismatch mismatch, encode_ne_of_formatMismatch mismatch⟩⟩
  · exact ⟨r, request, .inr overBound⟩

end Sys2Proof.Machine

/-! Every operation's effect and its response: what `exec` leaves unchanged, what its response depends on, and that each
response is one of those the spec names, which makes the machine's invariant hold along every step (R20, R23, R25, R30,
R76, R78, R137, R180, R202). -/

namespace Sys2Proof.Machine

/-! ### The effect of an operation, said once -/

/-- The state after a request that ends with `r` and shows `events` to the hook, where one is offered. -/
def conclude (r : Response) (events : List HookEvent) (s : State) : State :=
  { finish r s with trace := if s.params.hook then s.trace ++ events else s.trace }

theorem conclude_answers (r : Response) (events : List HookEvent) (s : State) : Answers s (conclude r events s) r :=
  answers_finish s r _

theorem prefix_conclude_trace (r : Response) (events : List HookEvent) (s : State) :
    s.trace <+: (conclude r events s).trace := by
  unfold conclude
  split
  · exact List.prefix_append _ _
  · exact List.prefix_rfl

theorem conclude_trace_of_hook_off (r : Response) (events : List HookEvent) {s : State} (off : s.params.hook = false) :
    (conclude r events s).trace = s.trace := by
  simp [conclude, off]

theorem exec_of_regionOf {i : Instr} {s : State} {x : Except Error (List Byte)}
    (h : regionOf s.params.satellites i = some x) :
    exec i s = .next (conclude (buildResponse s.rom x) (buildEvents i s.rom x) s) :=
  exec_build i s x h

theorem finish_observe_startRequest (r : Response) (e : HookEvent) (s : State) :
    finish r (observe e (startRequest s)) = conclude r [e] s := by
  cases offered : s.params.hook <;> simp [conclude, observe, startRequest, finish, offered]

theorem exec_checksum_within_bound {span : List Byte} {s : State} (h : spanBoundExceeded s.params span = none) :
    exec (.checksum span) s =
      .next (conclude (.ok (be 2 (crcWith s.rom span).toNat)) [.checksumInput span] s) := by
  rw [exec_checksum, execChecksum_eq span s h, finish_observe_startRequest]

/-- CHECKSUM is the one operation that builds no region. -/
theorem eq_checksum_of_regionOf_none {satellites : Byte} {i : Instr} (h : regionOf satellites i = none) :
    ∃ span, i = .checksum span := by
  cases i with
  | checksum span => exact ⟨span, rfl⟩
  | buildLogin | buildHeartbeat | buildLocation | buildAlarm => cases h

/-- The inversion of `exec`: a next state concludes the request, of a build with the response of its region, and of
CHECKSUM with the checksum of a span within the bound. -/
theorem exec_next_cases {i : Instr} {s t : State} (h : exec i s = .next t) :
    (∃ x, regionOf s.params.satellites i = some x ∧ t = conclude (buildResponse s.rom x) (buildEvents i s.rom x) s) ∨
      ∃ span, i = .checksum span ∧ spanBoundExceeded s.params span = none ∧
        t = conclude (.ok (be 2 (crcWith s.rom span).toNat)) [.checksumInput span] s := by
  cases hx : regionOf s.params.satellites i with
  | some x => exact .inl ⟨x, rfl, by cases h.symm.trans (exec_of_regionOf hx); rfl⟩
  | none =>
    obtain ⟨span, rfl⟩ := eq_checksum_of_regionOf_none hx
    cases hb : spanBoundExceeded s.params span with
    | none => exact .inr ⟨span, rfl, hb, by cases h.symm.trans (exec_checksum_within_bound hb); rfl⟩
    | some bound => cases h.symm.trans (execChecksum_refused span s bound hb)

/-! ### One answer per operation -/

theorem Answers.idle {s t : State} {r : Response} (h : Answers s t r) : Idle t := ⟨h.c, h.out, h.req⟩

/-- A state is reached with one response only: the one it has more. -/
theorem Answers.response_unique {s t : State} {r r' : Response} (h : Answers s t r) (h' : Answers s t r') : r' = r := by
  have same : s.responses ++ [r'] = s.responses ++ [r] := h'.responses.symm.trans h.responses
  simpa using same

/-- Whatever the operation, its next state concludes the request. -/
theorem exec_next_eq_conclude {i : Instr} {s t : State} (h : exec i s = .next t) :
    ∃ r events, t = conclude r events s := by
  rcases exec_next_cases h with ⟨x, -, rfl⟩ | ⟨span, -, -, rfl⟩
  · exact ⟨_, _, rfl⟩
  · exact ⟨_, _, rfl⟩

/-- Settles O45: every clause is one of the facts about `conclude`. -/
theorem everyOperationAnswersOnceAndChangesNothingElse :
    Obligations.EveryOperationAnswersOnceAndChangesNothingElse := by
  intro i s t h
  obtain ⟨r, events, rfl⟩ := exec_next_eq_conclude h
  have answers := conclude_answers r events s
  exact ⟨r, answers, answers.idle, fun _ => answers.response_unique, fun a => congrArg (romRead · a) answers.rom,
    prefix_conclude_trace r events s, conclude_trace_of_hook_off r events⟩

/-! ### What the response depends on -/

/-- The state an execution reaches fixes the response it ends with. -/
theorem EndsWith.eq_of_next {s t : State} {execution : Result} {r r' : Response} (h : EndsWith s execution r)
    (ht : execution = .next t) (answers : Answers s t r') : r = r' := by
  obtain ⟨u, hu, answers'⟩ := h
  cases ht.symm.trans hu
  exact answers.response_unique answers'

theorem spanBoundExceeded_congr {p p' : Params} (h : p.maxSpan = p'.maxSpan) (span : List Byte) :
    spanBoundExceeded p span = spanBoundExceeded p' span := by
  unfold spanBoundExceeded
  rw [h]

/-- Settles O48: a build's response is a function of the ROM and its region, a CHECKSUM's of the ROM and the span, and the
bound only decides whether the span is taken. -/
theorem responseDependsOnRequestRomAndParameters : Obligations.ResponseDependsOnRequestRomAndParameters := by
  intro i s s' r rom satellites maxSpan ends
  have ⟨t, ht, _⟩ := ends
  rcases exec_next_cases ht with ⟨x, hx, rfl⟩ | ⟨span, rfl, hb, rfl⟩
  · rw [ends.eq_of_next ht (conclude_answers _ _ s), rom]
    exact ⟨_, exec_of_regionOf (satellites ▸ hx), conclude_answers _ _ s'⟩
  · rw [ends.eq_of_next ht (conclude_answers _ _ s), rom]
    exact ⟨_, exec_checksum_within_bound (spanBoundExceeded_congr maxSpan span ▸ hb), conclude_answers _ _ s'⟩

/-! ### Encoders: the length of a field, and legal errors only -/

/-- What a successful encoder gives meets `P`, and the error a failing one raises is a legal response. -/
def Yields {α : Type} (P : α → Prop) : Except Error α → Prop
  | .ok a => P a
  | .error e => LegalResponse (.err e)

/-- A field or a payload of `n` bytes, or a legal error. -/
abbrev YieldsBytes (n : Nat) (x : Except Error (List Byte)) : Prop := Yields (fun bs => bs.length = n) x

/-- Sequencing: the first error wins, and the rest may rely on what the first part gives. -/
theorem Yields.bind {α β : Type} {P : α → Prop} {Q : β → Prop} {x : Except Error α} {k : α → Except Error β}
    (hx : Yields P x) (hk : ∀ a, P a → Yields Q (k a)) : Yields Q (x >>= k) := by
  cases x with
  | ok a => exact hk a hx
  | error e => exact hx

theorem Yields.pure {α : Type} {P : α → Prop} {a : α} (h : P a) : Yields P (Pure.pure a : Except Error α) := h

theorem checkRange_yields {id : FieldId} {lo hi : Int} (bounds : reportedBounds id = some (lo, hi)) (v : Int) :
    Yields (fun _ => True) (checkRange id lo hi v) := by
  rw [checkRange_eq]
  split
  · exact trivial
  · exact bounds

theorem checkIdentity_yields (identity : List Byte) : Yields (fun _ => True) (checkIdentity identity) := by
  unfold checkIdentity
  split
  · exact trivial
  · exact trivial

theorem uintField_yields {w : Nat} {id : FieldId} (bounds : reportedBounds id = some (0, (uintMax w : Int))) (v : Int) :
    YieldsBytes w (uintField w id v) := by
  unfold uintField
  exact (checkRange_yields bounds v).bind fun _ _ => .pure (be_length w _)

theorem fixLat_yields {id : FieldId} (bounds : reportedBounds id = some (0, (uintMax 4 : Int))) (q : Rat) :
    YieldsBytes 4 (fixLat id q) :=
  uintField_yields bounds _

theorem fixVolt_yields (q : Rat) : YieldsBytes 2 (fixVolt q) := uintField_yields rfl _

theorem serialField_yields (serial : Int) : YieldsBytes 2 (serialField serial) := uintField_yields rfl serial

theorem identField_yields (identity : List Byte) : YieldsBytes 8 (identField identity) := by
  unfold identField
  exact (checkIdentity_yields identity).bind fun _ _ => .pure (be_length 8 _)

theorem tzlang_yields (tzH100 language : Int) : YieldsBytes 2 (tzlang tzH100 language) := by
  unfold tzlang
  exact (checkRange_yields rfl tzH100).bind fun _ _ =>
    (checkRange_yields rfl language).bind fun _ _ => .pure (be_length 2 _)

theorem cell3_yields (cellId : Int) : YieldsBytes 3 (cell3 cellId) := by
  unfold cell3
  exact (uintField_yields rfl cellId).bind fun b4 h => .pure (by simp [h])

theorem dateTime_yields (g : GeoOperands) : YieldsBytes 6 (dateTime g) := by
  unfold dateTime
  exact (uintField_yields rfl _).bind fun _ year =>
    (uintField_yields rfl _).bind fun _ month =>
    (uintField_yields rfl _).bind fun _ day =>
    (uintField_yields rfl _).bind fun _ hour =>
    (uintField_yields rfl _).bind fun _ minute =>
    (uintField_yields rfl _).bind fun _ second =>
    .pure (by simp [year, month, day, hour, minute, second])

theorem geo_yields (satellites : Byte) (g : GeoOperands) : YieldsBytes 26 (geo satellites g) := by
  unfold geo
  exact (dateTime_yields g).bind fun _ dateTime =>
    (fixLat_yields rfl _).bind fun _ latitude =>
    (fixLat_yields rfl _).bind fun _ longitude =>
    (uintField_yields rfl _).bind fun _ speed =>
    (uintField_yields rfl _).bind fun _ courseStatus =>
    (uintField_yields rfl _).bind fun _ mcc =>
    (uintField_yields rfl _).bind fun _ mnc =>
    (uintField_yields rfl _).bind fun _ lac =>
    (cell3_yields _).bind fun _ cellId =>
    .pure (by simp [sat, dateTime, latitude, longitude, speed, courseStatus, mcc, mnc, lac, cellId])

/-! ### The payload of each kind (R74) -/

theorem serializeLogin_yields (identity : List Byte) (modelCode tzH100 language : Int) :
    YieldsBytes 12 (serializeLogin identity modelCode tzH100 language) := by
  unfold serializeLogin
  exact (identField_yields identity).bind fun _ identity =>
    (uintField_yields rfl _).bind fun _ modelCode =>
    (tzlang_yields _ _).bind fun _ tzLanguage =>
    .pure (by simp [identity, modelCode, tzLanguage])

theorem serializeLocation_yields (satellites : Byte) (g : GeoOperands) (acc uploadMode reupload odometer : Int) :
    YieldsBytes 33 (serializeLocation satellites g acc uploadMode reupload odometer) := by
  unfold serializeLocation
  exact (geo_yields satellites g).bind fun _ geo =>
    (uintField_yields rfl _).bind fun _ acc =>
    (uintField_yields rfl _).bind fun _ uploadMode =>
    (uintField_yields rfl _).bind fun _ reupload =>
    (uintField_yields rfl _).bind fun _ odometer =>
    .pure (by simp [geo, acc, uploadMode, reupload, odometer])

theorem serializeAlarm_yields (satellites : Byte) (g : GeoOperands)
    (terminalStatus battery signal alarmLanguage odometer : Int) :
    YieldsBytes 35 (serializeAlarm satellites g terminalStatus battery signal alarmLanguage odometer) := by
  unfold serializeAlarm
  exact (geo_yields satellites g).bind fun _ geo =>
    (uintField_yields rfl _).bind fun _ terminalStatus =>
    (uintField_yields rfl _).bind fun _ battery =>
    (uintField_yields rfl _).bind fun _ signal =>
    (uintField_yields rfl _).bind fun _ alarmLanguage =>
    (uintField_yields rfl _).bind fun _ odometer =>
    .pure (by simp [geo, terminalStatus, battery, signal, alarmLanguage, odometer])

theorem serializeHeartbeat_yields (terminalStatus : Int) (volts : Rat) (battery signal languagePort : Int) :
    YieldsBytes 7 (serializeHeartbeat terminalStatus volts battery signal languagePort) := by
  unfold serializeHeartbeat
  exact (uintField_yields rfl _).bind fun _ terminalStatus =>
    (fixVolt_yields _).bind fun _ voltage =>
    (uintField_yields rfl _).bind fun _ battery =>
    (uintField_yields rfl _).bind fun _ signal =>
    (uintField_yields rfl _).bind fun _ languagePort =>
    .pure (by simp [terminalStatus, voltage, battery, signal, languagePort])

/-! ### The region and its frame -/

/-- The region of a frame of this kind with `n` payload bytes (R131, R132): the length byte, the kind byte, then the payload
and the serial number. -/
def RegionOfKind (kind : Byte) (n : Nat) (region : List Byte) : Prop :=
  ∃ body : List Byte, region = BitVec.ofNat 8 (n + 5) :: kind :: body ∧ body.length = n + 2

theorem frameLength_of_le {n : Nat} (h : n + 5 ≤ 255) : frameLength n = .ok (n + 5) := by
  have length : 1 + n + 2 + checksumAllowance = n + 5 := by simp only [checksumAllowance]; omega
  simp only [frameLength, length, if_neg (Nat.not_lt.mpr h)]

/-- A payload that fits the length byte never ends as `FrameTooLarge` (R137). -/
theorem frameRegion_yields {kind : Byte} {n : Nat} {payload : Except Error (List Byte)} (serial : Int)
    (hpayload : YieldsBytes n payload) (fits : n + 5 ≤ 255) :
    Yields (RegionOfKind kind n) (frameRegion kind payload serial) := by
  unfold frameRegion
  refine hpayload.bind fun bytes hbytes => (serialField_yields serial).bind fun serialBytes hserial => ?_
  rw [hbytes, frameLength_of_le fits]
  exact ⟨bytes ++ serialBytes, by simp, by simp [hbytes, hserial]⟩

theorem payloadLength_fits (i : Instr) : payloadLength i + 5 ≤ 255 := by
  cases i with
  | buildLogin | buildHeartbeat | buildLocation | buildAlarm | checksum => simp [payloadLength]

/-- Every build's region carries the request's own selector and its kind's payload length. -/
theorem regionOf_yields {satellites : Byte} {i : Instr} {x : Except Error (List Byte)}
    (h : regionOf satellites i = some x) : Yields (RegionOfKind i.selector (payloadLength i)) x := by
  have fits := payloadLength_fits i
  cases i with
  | buildLogin => cases h; exact frameRegion_yields _ (serializeLogin_yields ..) fits
  | buildHeartbeat => cases h; exact frameRegion_yields _ (serializeHeartbeat_yields ..) fits
  | buildLocation => cases h; exact frameRegion_yields _ (serializeLocation_yields ..) fits
  | buildAlarm => cases h; exact frameRegion_yields _ (serializeAlarm_yields ..) fits
  | checksum => cases h

/-- A slice is the part of the string that begins where the slice does and ends where the slice ends. -/
theorem slice_eq_of_append {f : List Byte} (before part after : List Byte) (hf : f = before ++ part ++ after) {a b : Nat}
    (ha : a = before.length) (hb : b = a + part.length) : slice f a b = part := by
  simp [slice, hf, ha, hb]

/-! The parts of a frame, each where the receiver looks for it (R64, R134, R180). -/

section FrameParts

variable (region : List Byte) (checksum : Word)

theorem frameOf_length : (frameOf region checksum).length = region.length + 6 := by
  simp [frameOf, startMarker, terminator]

theorem slice_frameOf_startMarker : slice (frameOf region checksum) 0 2 = startMarker :=
  slice_eq_of_append [] startMarker (region ++ be 2 checksum.toNat ++ terminator) (by simp [frameOf]) rfl rfl

theorem slice_frameOf_region : slice (frameOf region checksum) 2 (region.length + 2) = region :=
  slice_eq_of_append startMarker region (be 2 checksum.toNat ++ terminator) (by simp [frameOf]) rfl (Nat.add_comm _ _)

theorem slice_frameOf_checksum :
    slice (frameOf region checksum) (region.length + 2) (region.length + 4) = be 2 checksum.toNat :=
  slice_eq_of_append (startMarker ++ region) (be 2 checksum.toNat) terminator (by simp [frameOf])
    (by simp [startMarker]) (by simp)

theorem slice_frameOf_terminator :
    slice (frameOf region checksum) (region.length + 4) (region.length + 6) = terminator :=
  slice_eq_of_append (startMarker ++ region ++ be 2 checksum.toNat) terminator [] (by simp [frameOf])
    (by simp [startMarker]) rfl

/-- The two checksum bytes read back as the checksum (R136). -/
theorem fromBe_slice_frameOf_checksum :
    fromBe (slice (frameOf region checksum) (region.length + 2) (region.length + 4)) = checksum.toNat := by
  rw [slice_frameOf_checksum]
  exact fromBe_be_of_lt checksum.isLt

end FrameParts

/-- The receiver accepts the frame around a region whose length byte is right, with the region's own checksum. -/
theorem frameCheck_frameOf {region : List Byte} (long : 4 ≤ region.length)
    (lengthByte : ((frameOf region (crc region)).getD 2 0).toNat = region.length + 1) :
    frameCheck (frameOf region (crc region)) = .frameOk := by
  have fourFromEnd : region.length + 6 - 4 = region.length + 2 := rfl
  have twoFromEnd : region.length + 6 - 2 = region.length + 4 := rfl
  have fiveFromEnd : region.length + 6 - 5 = region.length + 1 := rfl
  have notShort : ¬ region.length + 6 < 10 := by omega
  simp only [frameCheck, frameOf_length, fourFromEnd, twoFromEnd, fiveFromEnd, notShort, slice_frameOf_startMarker,
    slice_frameOf_region, slice_frameOf_terminator, fromBe_slice_frameOf_checksum, lengthByte, ne_eq, not_true_eq_false,
    if_false]

section RegionOfKind

variable {kind : Byte} {n : Nat} {region : List Byte} (h : RegionOfKind kind n region)
include h

theorem RegionOfKind.length : region.length = n + 4 := by
  obtain ⟨body, rfl, hbody⟩ := h
  simp [hbody]

theorem RegionOfKind.lengthByte (fits : n + 5 ≤ 255) (checksum : Word) :
    ((frameOf region checksum).getD 2 0).toNat = n + 5 := by
  obtain ⟨body, rfl, -⟩ := h
  simp [frameOf, startMarker]
  omega

theorem RegionOfKind.kindByte (checksum : Word) : (frameOf region checksum).getD 3 0 = kind := by
  obtain ⟨body, rfl, -⟩ := h
  rfl

theorem RegionOfKind.frameOk (fits : n + 5 ≤ 255) :
    frameCheck (frameOf region (crc region)) = .frameOk := by
  have long := h.length
  exact frameCheck_frameOf (by omega) (by rw [h.lengthByte fits, h.length])

end RegionOfKind

/-! ### Every response is legal -/

/-- The four kinds of frame and their sizes (R74, R78). -/
theorem kindAndLength_of_build {i : Instr} (build : isBuild i) {f : List Byte} (kind : f.getD 3 0 = i.selector)
    (length : f.length = payloadLength i + 10) : kindAndLength f := by
  cases i with
  | buildLogin => exact .inl ⟨kind, length⟩
  | buildLocation => exact .inr (.inl ⟨kind, length⟩)
  | buildAlarm => exact .inr (.inr (.inl ⟨kind, length⟩))
  | buildHeartbeat => exact .inr (.inr (.inr ⟨kind, length⟩))
  | checksum => cases build

theorem isBuild_of_regionOf {satellites : Byte} {i : Instr} {x : Except Error (List Byte)}
    (h : regionOf satellites i = some x) : isBuild i := by
  cases i with
  | buildLogin | buildHeartbeat | buildLocation | buildAlarm => rfl
  | checksum => cases h

/-- A build answers a frame of its kind that passes the receiver's check, or an error with its own information. -/
theorem buildResponse_legal {satellites : Byte} {i : Instr} {x : Except Error (List Byte)}
    (h : regionOf satellites i = some x) : LegalResponse (buildResponse romTable x) := by
  have yields := regionOf_yields h
  cases x with
  | error e => exact yields
  | ok region =>
    have ofKind : RegionOfKind i.selector (payloadLength i) region := yields
    refine .inr ⟨ofKind.frameOk (payloadLength_fits i), ?_⟩
    exact kindAndLength_of_build (isBuild_of_regionOf h) (ofKind.kindByte _) (by rw [frameOf_length, ofKind.length])

theorem exec_legal {i : Instr} {s t : State} (rom : Memory.wf s) (h : exec i s = .next t) :
    ∃ r, Answers s t r ∧ LegalResponse r := by
  rcases exec_next_cases h with ⟨x, hx, rfl⟩ | ⟨span, rfl, -, rfl⟩
  · exact ⟨_, conclude_answers _ _ s, rom ▸ buildResponse_legal hx⟩
  · exact ⟨_, conclude_answers _ _ s, .inl (be_length 2 _)⟩

theorem formatOf_eq_none_of_reserved {r : Request} {op : Byte} (h : decode r = .reserved op) : formatOf op = none := by
  unfold decode at h
  split at h
  · next reserved => cases h; exact reserved
  · split at h <;> cases h

theorem answer_legal {s t : State} {r : Request} (rom : Memory.wf s) (request : s.req = some r)
    (h : answer s = .next t) : ∃ x, Answers s t x ∧ LegalResponse x := by
  unfold answer readRequest at h
  rw [request] at h
  dsimp only at h
  cases decoded : decode r with
  | instr i =>
    rw [decoded] at h
    exact exec_legal rom h
  | reserved op =>
    rw [decoded] at h
    cases h
    exact ⟨_, answers_finish s _ _, formatOf_eq_none_of_reserved decoded⟩
  | formatMismatch op =>
    rw [decoded] at h
    cases h

/-! ### The invariant along a step -/

/-- Answering with a legal response keeps the invariant: its status is the last response's. -/
theorem MachineInvariant.after_response {s t : State} {r : Response} (inv : MachineInvariant s) (answers : Answers s t r)
    (legal : LegalResponse r) : MachineInvariant t where
  rom := answers.rom.trans inv.rom
  c := answers.c
  out := answers.out
  responses := by
    rw [answers.responses]
    intro x hx
    rcases List.mem_append.mp hx with old | new
    · exact inv.responses x old
    · exact List.mem_singleton.mp new ▸ legal
  status := by
    intro st pending
    rw [answers.responses, List.getLast?_concat]
    exact answers.status.symm.trans pending

theorem MachineInvariant.after_answer {s t : State} {r : Request} (inv : MachineInvariant s) (request : s.req = some r)
    (h : answer s = .next t) : MachineInvariant t := by
  obtain ⟨x, answers, legal⟩ := answer_legal inv.rom request h
  exact inv.after_response answers legal

theorem MachineInvariant.after_accept {s : State} (inv : MachineInvariant s) (r : Request) (rest : List HostEvent) :
    MachineInvariant (accept r { s with inbox := rest }) :=
  ⟨inv.rom, inv.c, inv.out, inv.responses, inv.status⟩

theorem MachineInvariant.after_reset {s : State} (inv : MachineInvariant s) (rest : List HostEvent) :
    MachineInvariant (applyReset { s with inbox := rest }) :=
  ⟨inv.rom, rfl, rfl, inv.responses, nofun⟩

/-- Settles O51, along what a step can do: a reset leaves no status pending, waiting changes nothing, accepting a request
touches nothing the invariant reads, and every answer is legal. -/
theorem everyStepKeepsTheInvariant : Obligations.EveryStepKeepsTheInvariant := by
  intro s t inv h
  rcases step_cases s with ⟨rest, -, resets⟩ | ⟨-, -, waits⟩ | ⟨r, rest, -, -, answers⟩ | ⟨r, request, -, answers⟩
  · cases h.symm.trans resets
    exact inv.after_reset rest
  · cases h.symm.trans waits
    exact inv
  · exact (inv.after_accept r rest).after_answer (accept_req _ r) (answers.symm.trans h)
  · exact inv.after_answer request (answers.symm.trans h)

end Sys2Proof.Machine

/-! The checksum's two bytes on an accepted span (R54, R100), and a run of a request program: each request is answered as if
it were the only one the block ever sees (R30, R50, R240). -/

namespace Sys2Proof.Machine

/-! ### The response of CHECKSUM -/

/-- On a span that the realisation accepts, CHECKSUM answers the checksum, high byte first, with the machine's own table. -/
theorem exec_checksum_ends_with_crc {span : List Byte} {s : State} (accepted : SpanAccepted s.params span.length) :
    EndsWith s (exec (.checksum span) s) (.ok (be 2 (crcWith s.rom span).toNat)) :=
  ⟨_, exec_checksum_within_bound (spanBoundExceeded_none.mpr accepted), conclude_answers _ _ s⟩

/-- `exec_checksum_ends_with_crc` with the spec's table: a checksum worked out on `romTable` is what the block answers. -/
theorem exec_checksum_ends_with_bytes {span bytes : List Byte} {s : State} (rom : Memory.wf s)
    (accepted : SpanAccepted s.params span.length) (value : be 2 (crcWith romTable span).toNat = bytes) :
    EndsWith s (exec (.checksum span) s) (.ok bytes) := by
  have ends := exec_checksum_ends_with_crc accepted
  rwa [show s.rom = romTable from rom, value] at ends

/-- V-CRC-6. -/
theorem crc_01_02 : be 2 (crcWith romTable [0x01#8, 0x02#8]).toNat = [0x35#8, 0x8D#8] := by decide

/-- V-CRC-7. -/
theorem crc_02_01 : be 2 (crcWith romTable [0x02#8, 0x01#8]).toNat = [0x2D#8, 0x7E#8] := by decide

/-- Settles O6: the two checksums of the table, answered from every state that accepts a span of 2 bytes. -/
theorem checksumDependsOnByteOrder : Obligations.ChecksumDependsOnByteOrder :=
  fun _ rom accepted =>
    ⟨exec_checksum_ends_with_bytes rom accepted crc_01_02, exec_checksum_ends_with_bytes rom accepted crc_02_01⟩

/-! ### The answer to a request, in any history -/

section Answer

variable {s : State} {r : Request} (request : s.req = some r)
include request

theorem answer_of_instr {i : Instr} (decoded : decode r = .instr i) : answer s = exec i s := by
  simp only [answer, readRequest, request, decoded]

theorem answer_of_reserved {op : Byte} (decoded : decode r = .reserved op) :
    answer s = .next (raise (.unsupportedOperation op) s) := by
  simp only [answer, readRequest, request, decoded]

theorem answer_of_formatMismatch {op : Byte} (decoded : decode r = .formatMismatch op) :
    answer s = .refused (.operandMismatch op) := by
  simp only [answer, readRequest, request, decoded]

end Answer

/-- The response to the request in progress depends on that request, the ROM and the parameters alone (R30): whatever else
two states differ in, both answer alike. -/
theorem answer_ends_congr {s s' : State} {r : Request} {x : Response} (ends : EndsWith s (answer s) x)
    (request : s.req = some r) (request' : s'.req = some r) (rom : s.rom = s'.rom) (params : s.params = s'.params) :
    EndsWith s' (answer s') x := by
  cases decoded : decode r with
  | instr i =>
    rw [answer_of_instr request decoded] at ends
    rw [answer_of_instr request' decoded]
    exact responseDependsOnRequestRomAndParameters i s s' x rom (by rw [params]) (by rw [params]) ends
  | reserved op =>
    rw [ends.eq_of_next (answer_of_reserved request decoded) (answers_finish s _ _)]
    exact ⟨_, answer_of_reserved request' decoded, answers_finish s' _ _⟩
  | formatMismatch op => exact absurd (answer_of_formatMismatch request decoded) (ends.ne_refused _)

theorem step_of_next_request {s : State} {r : Request} {rest : List HostEvent} (waiting : s.req = none)
    (inbox : s.inbox = .request r :: rest) : step s = answer (accept r { s with inbox := rest }) := by
  simp only [step, acceptNext, inbox, waiting]

/-- The response that a request gets alone is the one its answer ends with there; a refused request gets none. -/
theorem answer_ends_of_responseAlone {rom : Vector Word 256} {params : Params} {r : Request} {x : Response}
    (alone : responseAlone rom params r = some x) :
    EndsWith (accept r { aloneWith rom params r with inbox := [] })
      (answer (accept r { aloneWith rom params r with inbox := [] })) x := by
  unfold responseAlone at alone
  rw [step_of_next_request (s := aloneWith rom params r) rfl rfl] at alone
  rcases answer_cases _ r (accept_req _ r) with ⟨y, t, answered, answers⟩ | ⟨y, refused, -⟩
  · rw [answered] at alone
    have last : t.responses.getLast? = some y := by rw [answers.responses, List.getLast?_concat]
    cases alone.symm.trans last
    exact ⟨t, answered, answers⟩
  · rw [refused] at alone
    cases alone

/-- One step of a program: the next request is accepted and gets the response that it gets alone (R50). -/
theorem step_ends_with_responseAlone {s : State} {r : Request} {rest : List HostEvent} {x : Response}
    (waiting : s.req = none) (inbox : s.inbox = .request r :: rest) (alone : responseAlone s.rom s.params r = some x) :
    EndsWith (accept r { s with inbox := rest }) (step s) x := by
  rw [step_of_next_request waiting inbox]
  exact answer_ends_congr (answer_ends_of_responseAlone alone) rfl rfl rfl rfl

/-! ### The run of a program -/

theorem run_zero (M : Host.Core) (s : M.State) : M.run 0 s = .next s := rfl

theorem run_succ_of_next {M : Host.Core} {s t : M.State} (k : Nat) (h : M.step s = .next t) :
    M.run (k + 1) s = M.run k t := by
  rw [Host.Core.run, h]

/-- Settles O52, by induction on the program: a step leaves an idle block with the same ROM and parameters, so the requests
after it get alone what they would have got alone before it. -/
theorem programRunAnswersEachRequestAsIfAlone : Obligations.ProgramRunAnswersEachRequestAsIfAlone := by
  intro requests
  induction requests with
  | nil =>
    intro s idle inbox _
    exact ⟨s, run_zero core s, by simp, idle, inbox, rfl, rfl⟩
  | cons r requests ih =>
    intro s ⟨_, _, waiting⟩ inbox answered
    obtain ⟨answered_r, answered_rest⟩ := List.forall_mem_cons.mp answered
    obtain ⟨x, alone⟩ := Option.isSome_iff_exists.mp answered_r
    obtain ⟨t, stepped, answers⟩ := step_ends_with_responseAlone waiting inbox alone
    have rom : t.rom = s.rom := answers.rom
    have params : t.params = s.params := answers.params
    have responses : t.responses = s.responses ++ [x] := answers.responses
    obtain ⟨u, ran, responses_u, idle_u, inbox_u, rom_u, params_u⟩ :=
      ih t answers.idle answers.inbox (by rwa [rom, params])
    have run_u := (run_succ_of_next (M := core) _ stepped).trans ran
    refine ⟨u, run_u, ?_, idle_u, inbox_u, rom_u.trans rom, params_u.trans params⟩
    rw [responses_u, responses, rom, params]
    simp [alone]

end Sys2Proof.Machine

/-! Requests and frames by kind: what the decoder reads is what the encoder writes, and the step runs what is decoded (R60,
R62, R155, log 2); the sizes, the markers and the kind byte of every frame (R74, R78), and the geolocation block with its
satellite byte that the location and the alarm frame share (R68, R72, R150). -/

namespace Sys2Proof

/-! ### The decoder and the encoder -/

/-- The selector of a format (R60), the inverse of `formatOf`. -/
def Format.selector : Format → Byte
  | .chk => 0xC0#8
  | .login => 0x01#8
  | .loc => 0x22#8
  | .alm => 0x26#8
  | .hb => 0x13#8

theorem eq_selector_of_formatOf {op : Byte} {f : Format} (h : formatOf op = some f) : op = f.selector := by
  unfold formatOf at h
  split_ifs at h <;> cases h <;> assumption

theorem readGeo_some {ops rest : List Operand} {g : GeoOperands} (h : readGeo ops = some (g, rest)) :
    g.operands ++ rest = ops := by
  unfold readGeo at h
  split at h
  · cases h
    rfl
  · cases h

/-- What is read from a record of a format is an operation of that format, with exactly the record's values: no reader drops
or moves an operand (R62). -/
theorem readFormat_some {f : Format} {ops : List Operand} {i : Instr} (h : readFormat f ops = some i) :
    i.operands = ops ∧ i.selector = f.selector := by
  cases f with
  | chk | login | hb =>
    simp only [readFormat, readChk, readLogin, readHb] at h
    split at h <;> cases h
    exact ⟨rfl, rfl⟩
  | loc | alm =>
    simp only [readFormat, readLoc, readAlm] at h
    split at h <;> cases h
    next geo => exact ⟨readGeo_some geo, rfl⟩

theorem decode_instr {r : Request} {i : Instr} (h : decode r = .instr i) :
    ∃ f, formatOf r.op = some f ∧ readFormat f r.operands = some i := by
  unfold decode at h
  split at h
  · cases h
  · next f format =>
    split at h <;> cases h
    next read => exact ⟨f, format, read⟩

theorem decode_of_formatOf_none {r : Request} (h : formatOf r.op = none) : decode r = .reserved r.op := by
  simp only [decode, h]

theorem encode_of_decode {r : Request} {i : Instr} (h : decode r = .instr i) : encode i = r := by
  obtain ⟨f, format, read⟩ := decode_instr h
  obtain ⟨operands, selector⟩ := readFormat_some read
  rw [encode, operands, selector, ← eq_selector_of_formatOf format]

/-- A record with an assigned selector that no operation encodes to is a mismatch (log 2). -/
theorem decode_of_no_encoding {r : Request} (assigned : formatOf r.op ≠ none) (unencoded : ∀ i, encode i ≠ r) :
    decode r = .formatMismatch r.op := by
  obtain ⟨f, format⟩ := Option.ne_none_iff_exists'.mp assigned
  cases read : readFormat f r.operands with
  | none => simp only [decode, format, read]
  | some i => exact absurd (encode_of_decode (by simp only [decode, format, read])) (unencoded i)

end Sys2Proof

namespace Sys2Proof.Machine

/-- Settles O38: `decode_encode`, a case per operation. -/
theorem decodeOfEncodeIsTheOperation : Obligations.DecodeOfEncodeIsTheOperation := decode_encode

/-- Settles O39: the operands are those the format's reader took, and the selector is the format's only one. -/
theorem encodeOfDecodeIsTheRecord : Obligations.EncodeOfDecodeIsTheRecord := fun _ _ => encode_of_decode

/-- Settles O37: each written record is the encoder's for its operation, and `0x12` is assigned to no format. -/
theorem writtenRecordsDecode : Obligations.WrittenRecordsDecode :=
  ⟨decode_encode (.buildLogin [0x31#8, 0x32#8] 578 800 2 1), decode_encode (.buildHeartbeat 68 (25 / 2) 4 3 2 7),
    decode_encode (.checksum [0x01#8, 0x02#8]), decode_of_formatOf_none (by decide)⟩

/-! ### The step on a decoded request -/

theorem step_of_request_in_progress {s : State} {r : Request} (request : s.req = some r)
    (noReset : s.inbox.head? ≠ some .reset) : step s = answer s := by
  rcases step_cases s with ⟨rest, inbox, -⟩ | ⟨idle, -, -⟩ | ⟨_, _, idle, -, -⟩ | ⟨_, -, -, answers⟩
  · exact absurd (by rw [inbox, List.head?_cons]) noReset
  · cases request.symm.trans idle
  · cases request.symm.trans idle
  · exact answers

/-- Settles O40: either way the step answers the request, and answering a decoded request is `exec`. -/
theorem stepRunsTheDecodedOperation : Obligations.StepRunsTheDecodedOperation := by
  refine ⟨fun s r rest i waiting inbox decoded => ?_, fun s r i request noReset decoded => ?_⟩
  · exact (step_of_next_request waiting inbox).trans (answer_of_instr (accept_req _ r) decoded)
  · exact (step_of_request_in_progress request noReset).trans (answer_of_instr request decoded)

/-- Settles O42: such a record decodes as a mismatch of its selector, which is refused when the request is answered. -/
theorem mismatchedRecordIsRefused : Obligations.MismatchedRecordIsRefused := by
  intro r s rest assigned unencoded waiting inbox
  have decoded := decode_of_no_encoding assigned unencoded
  exact (step_of_next_request waiting inbox).trans (answer_of_formatMismatch (accept_req _ r) decoded)

/-! ### How a build ends -/

/-- A build that ends with a frame has a region, and the frame is the one around it. -/
theorem region_of_frame {i : Instr} {s : State} {f : List Byte} (build : isBuild i) (ends : EndsWith s (exec i s) (.ok f)) :
    ∃ region, regionOf s.params.satellites i = some (.ok region) ∧ f = frameOf region (crcWith s.rom region) := by
  have ⟨t, ht, _⟩ := ends
  rcases exec_next_cases ht with ⟨x, hx, rfl⟩ | ⟨span, rfl, -, -⟩
  · have response : .ok f = buildResponse s.rom x := ends.eq_of_next ht (conclude_answers _ _ s)
    cases x with
    | error e => cases response
    | ok region => cases response; exact ⟨region, hx, rfl⟩
  · cases build

/-- Whatever the table is, an error that an operation ends with carries its own information. -/
theorem error_legal {i : Instr} {s : State} {e : Error} (ends : EndsWith s (exec i s) (.err e)) :
    LegalResponse (.err e) := by
  have ⟨t, ht, _⟩ := ends
  rcases exec_next_cases ht with ⟨x, hx, rfl⟩ | ⟨span, -, -, rfl⟩
  · have response : .err e = buildResponse s.rom x := ends.eq_of_next ht (conclude_answers _ _ s)
    cases x with
    | error e' => cases response; exact regionOf_yields hx
    | ok region => cases response
  · cases ends.eq_of_next ht (conclude_answers _ _ s)

/-! ### The sizes and the fixed bytes of a frame -/

theorem regionOfKind_of_regionOf {satellites : Byte} {i : Instr} {region : List Byte}
    (h : regionOf satellites i = some (.ok region)) : RegionOfKind i.selector (payloadLength i) region :=
  regionOf_yields h

/-- The four kind bytes of R60 are the builds' selectors. -/
theorem selector_mem_of_isBuild {i : Instr} (build : isBuild i) : i.selector ∈ [0x01#8, 0x22#8, 0x26#8, 0x13#8] := by
  cases i with
  | buildLogin | buildHeartbeat | buildLocation | buildAlarm => simp [Instr.selector]
  | checksum => cases build

/-- Settles O26: a frame is 6 bytes longer than its region, whose length the kind fixes. -/
theorem frameSizesAreFixedPerKind : Obligations.FrameSizesAreFixedPerKind := by
  intro i s f build ends
  obtain ⟨region, hregion, rfl⟩ := region_of_frame build ends
  have ofKind := regionOfKind_of_regionOf hregion
  have fourFromEnd : region.length + 6 - 4 = region.length + 2 := rfl
  refine ⟨?_, ofKind.lengthByte (payloadLength_fits i) _, ?_⟩
  · rw [frameOf_length, ofKind.length]
  · rw [frameOf_length, fourFromEnd, slice_frameOf_region, ofKind.length]

/-- Settles O27: the region's second byte is the selector, and `frameOf` puts the two markers around the region. -/
theorem frameMarkersAndKindByte : Obligations.FrameMarkersAndKindByte := by
  intro i s f build ends
  obtain ⟨region, hregion, rfl⟩ := region_of_frame build ends
  have kind := (regionOfKind_of_regionOf hregion).kindByte (crcWith s.rom region)
  have twoFromEnd : region.length + 6 - 2 = region.length + 4 := rfl
  refine ⟨kind, kind ▸ selector_mem_of_isBuild build, slice_frameOf_startMarker _ _, ?_⟩
  rw [frameOf_length, twoFromEnd]
  exact slice_frameOf_terminator _ _

/-! ### The geolocation block of a frame -/

/-- The geolocation operands of the two formats that have them (R62). -/
def geoOperandsOf : Instr → Option GeoOperands
  | .buildLocation g _ _ _ _ _ => some g
  | .buildAlarm g _ _ _ _ _ _ => some g
  | .buildLogin _ _ _ _ _ => none
  | .buildHeartbeat _ _ _ _ _ _ => none
  | .checksum _ => none

theorem isBuild_of_geoOperandsOf {i : Instr} {g : GeoOperands} (h : geoOperandsOf i = some g) : isBuild i := by
  cases i with
  | buildLogin | buildHeartbeat | buildLocation | buildAlarm => rfl
  | checksum => cases h

/-- The satellite byte comes right after the six date-time bytes (R150). -/
theorem geo_ok {satellites : Byte} {g : GeoOperands} {block : List Byte} (h : geo satellites g = .ok block) :
    block.length = 26 ∧ block.getD 6 0 = satellites := by
  have length : YieldsBytes 26 (geo satellites g) := geo_yields satellites g
  rw [h] at length
  refine ⟨length, ?_⟩
  obtain ⟨date, hdate, h⟩ := bind_eq_ok h
  have dateLength : YieldsBytes 6 (dateTime g) := dateTime_yields g
  rw [hdate] at dateLength
  iterate 8 obtain ⟨_, -, h⟩ := bind_eq_ok h
  cases h
  have dateLength : date.length = 6 := dateLength
  simp [sat, dateLength]

theorem serializeLocation_ok {satellites : Byte} {g : GeoOperands} {acc uploadMode reupload odometer : Int}
    {payload : List Byte} (h : serializeLocation satellites g acc uploadMode reupload odometer = .ok payload) :
    ∃ block, geo satellites g = .ok block ∧ block <+: payload := by
  obtain ⟨block, hblock, h⟩ := bind_eq_ok h
  iterate 4 obtain ⟨_, -, h⟩ := bind_eq_ok h
  cases h
  exact ⟨block, hblock, by simp⟩

theorem serializeAlarm_ok {satellites : Byte} {g : GeoOperands}
    {terminalStatus battery signal alarmLanguage odometer : Int} {payload : List Byte}
    (h : serializeAlarm satellites g terminalStatus battery signal alarmLanguage odometer = .ok payload) :
    ∃ block, geo satellites g = .ok block ∧ block <+: payload := by
  obtain ⟨block, hblock, h⟩ := bind_eq_ok h
  iterate 5 obtain ⟨_, -, h⟩ := bind_eq_ok h
  cases h
  exact ⟨block, hblock, by simp⟩

theorem frameRegion_ok {kind : Byte} {payload : Except Error (List Byte)} {serial : Int} {region : List Byte}
    (h : frameRegion kind payload serial = .ok region) :
    ∃ bytes lengthByte serialBytes, payload = .ok bytes ∧ region = lengthByte :: kind :: (bytes ++ serialBytes) := by
  obtain ⟨bytes, hbytes, h⟩ := bind_eq_ok h
  obtain ⟨serialBytes, -, h⟩ := bind_eq_ok h
  obtain ⟨length, -, h⟩ := bind_eq_ok h
  cases h
  exact ⟨bytes, _, serialBytes, hbytes, rfl⟩

/-- The region around a payload that begins with the geolocation block has the block right after its length and kind
bytes. -/
theorem geo_of_frameRegion {satellites kind : Byte} {g : GeoOperands} {payload : Except Error (List Byte)} {serial : Int}
    {region : List Byte} (begins : ∀ {bytes}, payload = .ok bytes → ∃ block, geo satellites g = .ok block ∧ block <+: bytes)
    (h : frameRegion kind payload serial = .ok region) :
    ∃ block lengthByte rest, geo satellites g = .ok block ∧ region = [lengthByte, kind] ++ block ++ rest := by
  obtain ⟨payload, lengthByte, serialBytes, hpayload, rfl⟩ := frameRegion_ok h
  obtain ⟨block, hblock, rest, rfl⟩ := begins hpayload
  exact ⟨block, lengthByte, rest ++ serialBytes, hblock, by simp⟩

theorem geo_of_region {satellites : Byte} {i : Instr} {g : GeoOperands} {region : List Byte}
    (hg : geoOperandsOf i = some g) (h : regionOf satellites i = some (.ok region)) :
    ∃ block lengthByte rest, geo satellites g = .ok block ∧ region = [lengthByte, i.selector] ++ block ++ rest := by
  cases i with
  | buildLocation => cases hg; exact geo_of_frameRegion serializeLocation_ok (Option.some.inj h)
  | buildAlarm => cases hg; exact geo_of_frameRegion serializeAlarm_ok (Option.some.inj h)
  | buildLogin | buildHeartbeat | checksum => cases hg

/-- Bytes 4 to 29 of a location or an alarm frame are the geolocation block, which depends on the geolocation operands and
the satellite parameter alone (R71, R72, R150). -/
theorem geo_of_frame {i : Instr} {g : GeoOperands} {s : State} {f : List Byte} (hg : geoOperandsOf i = some g)
    (ends : EndsWith s (exec i s) (.ok f)) : geo s.params.satellites g = .ok (slice f 4 30) := by
  obtain ⟨region, hregion, rfl⟩ := region_of_frame (isBuild_of_geoOperandsOf hg) ends
  obtain ⟨block, lengthByte, rest, hblock, rfl⟩ := geo_of_region hg hregion
  obtain ⟨length, -⟩ := geo_ok hblock
  generalize crcWith _ _ = checksum
  have block_at : slice (frameOf ([lengthByte, i.selector] ++ block ++ rest) checksum) 4 30 = block :=
    slice_eq_of_append (startMarker ++ [lengthByte, i.selector]) block (rest ++ be 2 checksum.toNat ++ terminator)
      (by simp [frameOf]) rfl (by rw [length])
  rw [hblock, block_at]

theorem getD_slice {f : List Byte} {a b k : Nat} (d : Byte) (h : k < b - a) : (slice f a b).getD k d = f.getD (a + k) d := by
  simp [slice, h]

theorem satelliteByte_of_frame {i : Instr} {g : GeoOperands} {s : State} {f : List Byte} (hg : geoOperandsOf i = some g)
    (ends : EndsWith s (exec i s) (.ok f)) : f.getD 10 0 = s.params.satellites := by
  obtain ⟨-, satellite⟩ := geo_ok (geo_of_frame hg ends)
  exact (getD_slice 0 (by decide)).symm.trans satellite

/-- Settles O28: no bounds are reported for the satellites field. -/
theorem satelliteByteIsTheParameter : Obligations.SatelliteByteIsTheParameter := by
  refine ⟨fun _ _ _ _ _ _ _ _ => satelliteByte_of_frame rfl, fun _ _ _ _ _ _ _ _ _ => satelliteByte_of_frame rfl, ?_⟩
  intro i s lo hi ends
  have bounds : reportedBounds .satellites = some (lo, hi) := error_legal ends
  cases bounds

/-- Settles O29: both slices are the block of the same operands and the same parameter. -/
theorem alarmSharesTheLocationBlock : Obligations.AlarmSharesTheLocationBlock := by
  intro g acc up re odo n ts bat sig al odo' m s f f' location alarm
  have block : geo s.params.satellites g = .ok (slice f 4 30) := geo_of_frame rfl location
  have block' : geo s.params.satellites g = .ok (slice f' 4 30) := geo_of_frame rfl alarm
  exact Except.ok.inj (block.symm.trans block')

end Sys2Proof.Machine

/-! The table-driven checksum engine against its bit-serial definition (R101 to R103, R106), what CHECKSUM answers (R100,
R104, R105, R107), and the residue of a checksum appended to its own bytes (R109). -/

namespace Sys2Proof.Machine

/-! ### The bit-serial step is linear -/

theorem cond_xor (p q : Bool) (w : Word) :
    (bif p ^^ q then w else 0#16) = (bif p then w else 0#16) ^^^ (bif q then w else 0#16) := by
  cases p <;> cases q <;> simp

/-- The branch of R102 as a feedback of the polynomial. -/
theorem bitStep_eq (c : Word) : bitStep c = (c >>> 1) ^^^ bif c.getLsbD 0 then crcPolynomial else 0#16 := by
  rw [bitStep, BitVec.and_one_eq_setWidth_ofBool_getLsbD]
  cases c.getLsbD 0 <;> simp

theorem bitStep_xor (x y : Word) : bitStep (x ^^^ y) = bitStep x ^^^ bitStep y := by
  simp only [bitStep_eq, BitVec.getLsbD_xor, BitVec.ushiftRight_xor_distrib, cond_xor]
  ac_rfl

theorem bitSteps_xor (n : Nat) (x y : Word) : bitSteps n (x ^^^ y) = bitSteps n x ^^^ bitSteps n y := by
  induction n generalizing x y with
  | zero => rfl
  | succ n ih => simp only [bitSteps, bitStep_xor, ih]

/-- Steps over clear bits feed nothing back. -/
theorem bitSteps_eq_ushiftRight {n : Nat} {c : Word} (clear : ∀ k < n, c.getLsbD k = false) : bitSteps n c = c >>> n := by
  induction n generalizing c with
  | zero => simp [bitSteps]
  | succ n ih =>
    have first : bitStep c = c >>> 1 := by rw [bitStep_eq, clear 0 n.succ_pos]; simp
    have clear_rest : ∀ k < n, (c >>> 1).getLsbD k = false := fun k hk => by
      rw [BitVec.getLsbD_ushiftRight, clear (1 + k) (by omega)]
    rw [bitSteps, first, ih clear_rest, ← BitVec.shiftRight_add, Nat.add_comm]

/-- Eight steps move the high byte down unchanged and turn the low byte into its table entry. -/
theorem bitSteps_eight (x : Word) : bitSteps 8 x = (x >>> 8) ^^^ crcTableEntry (x.setWidth 8) := by
  have bytes : x = (x >>> 8 <<< 8) ^^^ (x.setWidth 8).setWidth 16 := by
    ext i hi
    by_cases low : i < 8
    · simp [low, BitVec.getLsbD_eq_getElem hi]
    · have position : 8 + (i - 8) = i := by omega
      simp [low, position, BitVec.getLsbD_eq_getElem hi]
  have high : bitSteps 8 (x >>> 8 <<< 8) = x >>> 8 := by
    have clear : ∀ k < 8, (x >>> 8 <<< 8).getLsbD k = false := by simp +contextual
    rw [bitSteps_eq_ushiftRight clear]
    ext i hi
    by_cases inside : 8 + i < 16
    · simp [inside]
    · simp [inside, BitVec.getLsbD_of_ge x (8 + i) (by omega)]
  calc bitSteps 8 x
      = bitSteps 8 ((x >>> 8 <<< 8) ^^^ (x.setWidth 8).setWidth 16) := by rw [← bytes]
    _ = (x >>> 8) ^^^ crcTableEntry (x.setWidth 8) := by rw [bitSteps_xor, high, crcTableEntry]

/-! ### The table -/

/-- `n` entries of R102's table, from index `k` on. -/
def tableEntries (k n : Nat) : List Word := (List.range' k n).map fun i => crcTableEntry (BitVec.ofNat 8 i)

theorem tableEntries_append (k m n : Nat) : tableEntries k m ++ tableEntries (k + m) n = tableEntries k (m + n) := by
  simp only [tableEntries, ← List.map_append, List.range'_append_1]

theorem tableEntries_getD {n i : Nat} (h : i < n) :
    (tableEntries 0 n).getD i 0#16 = crcTableEntry (BitVec.ofNat 8 i) := by
  simp [tableEntries, h]

theorem romListing0_eq : romListing0 = tableEntries 0 64 := by decide
theorem romListing1_eq : romListing1 = tableEntries 64 64 := by decide
theorem romListing2_eq : romListing2 = tableEntries 128 64 := by decide
theorem romListing3_eq : romListing3 = tableEntries 192 64 := by decide

theorem romTable_toList : romTable.toList = tableEntries 0 256 := by
  calc romTable.toList
      = romListing0 ++ (romListing1 ++ (romListing2 ++ romListing3)) := rfl
    _ = tableEntries 0 64 ++ (tableEntries 64 64 ++ (tableEntries 128 64 ++ tableEntries 192 64)) := by
      rw [romListing0_eq, romListing1_eq, romListing2_eq, romListing3_eq]
    _ = tableEntries 0 256 := by
      rw [tableEntries_append 128, tableEntries_append 64, tableEntries_append 0]

theorem romRead_eq_getD (rom : Vector Word 256) (i : Byte) : romRead rom i = rom.toList.getD i.toNat 0#16 := by
  rw [List.getD_eq_getElem _ _ (by simpa only [Vector.length_toList] using i.isLt), Vector.getElem_toList, romRead]

/-- The listing of R103 is the table of R102. -/
theorem romRead_romTable (i : Byte) : romRead romTable i = crcTableEntry i := by
  rw [romRead_eq_getD, romTable_toList, tableEntries_getD i.isLt, BitVec.ofNat_toNat, BitVec.setWidth_eq]

/-- Settles O1: the spot checks are read off the listing. -/
theorem romEntriesAreThePolynomialTable : Obligations.RomEntriesAreThePolynomialTable :=
  ⟨reset_rom, romRead_romTable, by decide⟩

/-! ### The table-driven step -/

theorem setWidth_and_lowMask (x : Word) : (x &&& 0xFF#16).setWidth 8 = x.setWidth 8 := by
  have mask : (0xFF#16).setWidth 8 = BitVec.allOnes 8 := by decide
  rw [BitVec.setWidth_and, mask, BitVec.and_allOnes]

theorem setWidth_xor_byte (c : Word) (b : Byte) : (c ^^^ b.setWidth 16).setWidth 8 = c.setWidth 8 ^^^ b := by
  rw [BitVec.setWidth_xor, BitVec.setWidth_setWidth_of_le b (by decide), BitVec.setWidth_eq]

/-- The ROM's index is the low byte of the accumulator, with the byte taken in. -/
theorem crcStep_eq_romRead (rom : Vector Word 256) (c : Word) (b : Byte) :
    crcStep rom c b = (c >>> 8) ^^^ romRead rom (c.setWidth 8 ^^^ b) := by
  rw [crcStep, setWidth_and_lowMask, setWidth_xor_byte]

/-- With the spec's table, the step is eight bit-serial steps. -/
theorem crcStep_romTable (c : Word) (b : Byte) : crcStep romTable c b = bitSteps 8 (c ^^^ b.setWidth 16) := by
  have high : (c ^^^ b.setWidth 16) >>> 8 = c >>> 8 := by
    ext i hi
    simp
  rw [crcStep_eq_romRead, romRead_romTable, bitSteps_eight, high, setWidth_xor_byte]

/-- Settles O2: `bitSteps 8` is the eight steps written out. -/
theorem crcStepEqualsEightBitSerialSteps : Obligations.CrcStepEqualsEightBitSerialSteps :=
  crcStep_romTable

/-! ### What CHECKSUM answers -/

theorem toNat_setWidth_and_lowMask (x : Word) : ((x &&& 0xFF#16).setWidth 8).toNat = (x &&& 0xFF#16).toNat := by
  have inRange : (x &&& 0xFF#16).toNat < 256 := by
    rw [BitVec.toNat_and]
    exact Nat.lt_succ_of_le Nat.and_le_right
  rw [BitVec.toNat_setWidth, Nat.mod_eq_of_lt inRange]

/-- The step with its ROM read by position in the listed table, as R101 writes it. -/
theorem crcStep_eq_getD (rom : Vector Word 256) (c : Word) (b : Byte) :
    crcStep rom c b = (c >>> 8) ^^^ rom.toList.getD ((c ^^^ b.setWidth 16) &&& 0xFF#16).toNat 0#16 := by
  rw [crcStep, romRead_eq_getD, toNat_setWidth_and_lowMask]

/-- The two bytes of a word, high byte first (R41). -/
theorem be_two_word (v : Word) : be 2 v.toNat = [(v >>> 8).setWidth 8, v.setWidth 8] := by
  have high : BitVec.ofNat 8 (v.toNat >>> 8) = (v >>> 8).setWidth 8 := by
    rw [← BitVec.toNat_ushiftRight, BitVec.ofNat_toNat]
  have low : BitVec.ofNat 8 (v.toNat >>> 0) = v.setWidth 8 := by
    rw [Nat.shiftRight_zero, BitVec.ofNat_toNat]
  rw [be_succ, be_succ, be_zero, high, low]

theorem conclude_traceAfter (r : Response) (events : List HookEvent) (s : State) :
    TraceAfter s (conclude r events s) events := rfl

/-- Settles O3: the fold of R101's step from R100's seed is `crcWith`, and CHECKSUM concludes with its two bytes. -/
theorem checksumAnswersCrcOfSpan : Obligations.ChecksumAnswersCrcOfSpan := by
  intro span s accepted next v
  have value : crcWith s.rom span = v := by
    have same : crcStep s.rom = next := funext₂ (crcStep_eq_getD s.rom)
    rw [crcWith, same]
    rfl
  rw [← be_two_word, ← value]
  exact ⟨_, exec_checksum_within_bound (spanBoundExceeded_none.mpr accepted), conclude_answers _ _ s,
    conclude_traceAfter _ _ s⟩

theorem spanAccepted_zero (p : Params) : SpanAccepted p 0 := fun bound _ => bound.zero_le

/-- Settles O4: no bound is below 0, and the empty span leaves the seed, whose complement is 0. -/
theorem checksumOfEmptySpanIsZero : Obligations.ChecksumOfEmptySpanIsZero := by
  intro s
  have ends := exec_checksum_ends_with_crc (span := []) (spanAccepted_zero s.params)
  rwa [crcWith_nil] at ends

/-- V-CRC-8. -/
theorem crc_check_string :
    be 2 (crcWith romTable [0x31#8, 0x32#8, 0x33#8, 0x34#8, 0x35#8, 0x36#8, 0x37#8, 0x38#8, 0x39#8]).toNat =
      [0x90#8, 0x6E#8] := by decide

/-- Settles O5. -/
theorem checksumOfCheckString : Obligations.ChecksumOfCheckString :=
  fun _ rom accepted => exec_checksum_ends_with_bytes rom accepted crc_check_string

/-! ### The residue -/

/-- R104: XOR with the mask is the complement. -/
theorem xor_crcFinalMask (v : Word) : v ^^^ crcFinalMask = ~~~ v := BitVec.xor_allOnes

theorem foldl_crcStep_eq_not (rom : Vector Word 256) (bs : List Byte) :
    bs.foldl (crcStep rom) crcSeed = ~~~ crcWith rom bs := by
  rw [crcWith, xor_crcFinalMask, BitVec.not_not]

theorem crcWith_append_two (rom : Vector Word 256) (bs : List Byte) (b b' : Byte) :
    crcWith rom (bs ++ [b, b']) = ~~~ crcStep rom (crcStep rom (~~~ crcWith rom bs) b) b' := by
  rw [← foldl_crcStep_eq_not, crcWith, xor_crcFinalMask, List.foldl_append]
  rfl

/-- Taken in after its own complement, a word's low byte meets the index `0xFF`, and its high byte then an index that
depends on that entry alone: nothing of the word is left. -/
theorem crcStep_crcStep_not (rom : Vector Word 256) (v : Word) :
    crcStep rom (crcStep rom (~~~ v) (v.setWidth 8)) ((v >>> 8).setWidth 8) =
      (romRead rom 0xFF#8 >>> 8) ^^^ romRead rom (~~~ (romRead rom 0xFF#8).setWidth 8) := by
  have first : (~~~ v).setWidth 8 ^^^ v.setWidth 8 = 0xFF#8 := by
    rw [BitVec.setWidth_not (by decide), ← BitVec.allOnes_xor, BitVec.xor_assoc, BitVec.xor_self, BitVec.xor_zero]
    rfl
  have high (t : Word) : ((~~~ v) >>> 8 ^^^ t) >>> 8 = t >>> 8 := by
    ext i hi
    have outside : ¬ 8 + (8 + i) < 16 := by omega
    simp [outside]
  have second (t : Word) : ((~~~ v) >>> 8 ^^^ t).setWidth 8 ^^^ (v >>> 8).setWidth 8 = ~~~ t.setWidth 8 := by
    ext i hi
    have inside : 8 + i < 16 := by omega
    cases h : v[8 + i] <;> simp [h, inside]
  rw [crcStep_eq_romRead, crcStep_eq_romRead, first, high, second]

/-- Settles O8: low byte first, the residue is read off two entries of the table; high byte first, the empty string and
a zero byte leave two different values. -/
theorem crcResidueOnlyForLowByteFirst : Obligations.CrcResidueOnlyForLowByteFirst := by
  refine ⟨fun bs => ?_, [], [0x00#8], by decide⟩
  rw [crc, crcWith_append_two, crc, crcStep_crcStep_not]
  decide

end Sys2Proof.Machine

/-! The Frame Builder: the field encoders, each against its range (R121 to R127, R130); the region around a payload and why
its length byte never overflows (R131, R132, R137, R203); and what a frame stores of its own region (R133, R135, R136,
R138). -/

namespace Sys2Proof.Machine

/-! ### Unsigned fields -/

theorem accepted_int_iff (id : FieldId) (lo hi v : Int) : (FieldCheck.int id lo hi v).accepted ↔ lo ≤ v ∧ v ≤ hi := by
  simp [FieldCheck.int]

theorem checkRange_of_mem (id : FieldId) {lo hi v : Int} (inside : lo ≤ v ∧ v ≤ hi) : checkRange id lo hi v = .ok () := by
  rw [checkRange_eq, if_pos ((accepted_int_iff id lo hi v).mpr inside)]

theorem checkRange_of_outside (id : FieldId) {lo hi v : Int} (outside : v < lo ∨ v > hi) :
    checkRange id lo hi v = .error (.fieldOutOfRange id lo hi) :=
  if_pos outside

theorem uintField_eq_ite (w : Nat) (id : FieldId) (v : Int) :
    uintField w id v = if 0 ≤ v ∧ v ≤ uintMax w then .ok (be w v.toNat) else .error (.fieldOutOfRange id 0 (uintMax w)) := by
  simp only [uintField_eq, accepted_int_iff]

theorem uintField_of_mem (w : Nat) (id : FieldId) {v : Int} (inside : 0 ≤ v ∧ v ≤ uintMax w) :
    uintField w id v = .ok (be w v.toNat) := by
  rw [uintField_eq_ite, if_pos inside]

theorem uintField_of_outside (w : Nat) (id : FieldId) {v : Int} (outside : v < 0 ∨ v > uintMax w) :
    uintField w id v = .error (.fieldOutOfRange id 0 (uintMax w)) := by
  rw [uintField_eq_ite, if_neg (by omega)]

theorem uintField_ok {w : Nat} {id : FieldId} {v : Int} {bytes : List Byte} (h : uintField w id v = .ok bytes) :
    bytes = be w v.toNat := by
  rw [uintField_eq_ite] at h
  split at h <;> cases h
  rfl

theorem uintMax_cast (w : Nat) : (uintMax w : Int) = 2 ^ (8 * w) - 1 := by
  rw [uintMax, Nat.cast_pred (Nat.two_pow_pos _), Nat.cast_pow, Nat.cast_ofNat]

theorem serialField_of_mem {serial : Int} (inside : 0 ≤ serial ∧ serial ≤ 65535) :
    serialField serial = .ok (be 2 serial.toNat) :=
  uintField_of_mem 2 .serial inside

/-- Settles O10: the two branches of the field, with its greatest value written as a power; the serial number is the field
of two bytes. -/
theorem unsignedFieldNeverWraps : Obligations.UnsignedFieldNeverWraps := by
  refine ⟨fun w id v => ?_, fun v => ⟨fun low high => serialField_of_mem ⟨low, high⟩, uintField_of_outside 2 .serial⟩⟩
  rw [← uintMax_cast]
  exact ⟨fun low high => uintField_of_mem w id ⟨low, high⟩, uintField_of_outside w id⟩

/-! ### The fixed-point fields, the identity, the packed word and the cell id -/

/-- Settles O11: the scaled value is `trunc` of the exact product, and the rest is the unsigned field's range check. -/
theorem fixedPointFieldsTruncateTowardZero : Obligations.FixedPointFieldsTruncateTowardZero := by
  refine ⟨fun id q => ?_, fun q => ?_⟩
  · rw [← trunc_eq_floor_or_ceil]
    have scaled : truncScaled q degreeScale = trunc (q * 1800000) := truncScaled_eq_trunc q 1800000
    rw [fixLat, scaled, uintField_eq_ite, uintMax_four]
    rfl
  · rw [← trunc_eq_floor_or_ceil]
    have scaled : truncScaled q voltScale = trunc (q * 100) := truncScaled_eq_trunc q 100
    rw [fixVolt, scaled, uintField_eq_ite, uintMax_two]
    rfl

/-- Reducing at every digit or once at the end is the same, from whatever the digits before gave. -/
theorem foldl_identity_step_mod (identity : List Byte) (v : Nat) :
    identity.foldl (fun v ch => (10 * v + (ch.toNat - 0x30)) % 2 ^ 64) (v % 2 ^ 64) =
      identity.foldl (fun v ch => 10 * v + (ch.toNat - 0x30)) v % 2 ^ 64 := by
  induction identity generalizing v with
  | nil => rfl
  | cons ch rest ih =>
    have digit : (10 * (v % 2 ^ 64) + (ch.toNat - 0x30)) % 2 ^ 64 = (10 * v + (ch.toNat - 0x30)) % 2 ^ 64 := by omega
    rw [List.foldl_cons, List.foldl_cons, digit, ih]

theorem identityValue_eq (identity : List Byte) : identityValue identity = decimalValue identity % 2 ^ 64 :=
  foldl_identity_step_mod identity 0

theorem isDigit_iff (ch : Byte) : isDigit ch ↔ 0x30 ≤ ch.toNat ∧ ch.toNat ≤ 0x39 := by simp [isDigit]

theorem identField_eq_ite (identity : List Byte) :
    identField identity = if identity ≠ [] ∧ ∀ ch ∈ identity, 0x30 ≤ ch.toNat ∧ ch.toNat ≤ 0x39
      then .ok (be 8 (decimalValue identity % 2 ^ 64)) else .error .invalidIdentity := by
  simp only [identField, checkIdentity, ite_bind, ok_bind, identityValue_eq, List.all_eq_true, isDigit_iff]
  rfl

/-- Settles O12: the two branches of the check for digits. -/
theorem identityKeepsTheLow64Bits : Obligations.IdentityKeepsTheLow64Bits := by
  intro identity
  rw [identField_eq_ite]
  refine ⟨fun nonempty digits => if_pos ⟨nonempty, digits⟩, fun bad => if_neg ?_⟩
  rintro ⟨nonempty, digits⟩
  rcases bad with empty | ⟨ch, mem, notDigit⟩
  · exact nonempty empty
  · have digit := digits ch mem
    omega

/-- The language fits the four bits below the zone. -/
theorem tzlangWord_eq (tz : Int) {lang : Int} (inside : 0 ≤ lang ∧ lang ≤ 15) :
    tzlangWord tz lang = (tz % 4096).toNat * 16 + lang.toNat := by
  have fits : lang.toNat < 2 ^ 4 := by omega
  rw [tzlangWord, ← Nat.shiftLeft_add_eq_or_of_lt fits, Nat.shiftLeft_eq]

theorem tzlang_eq_ite (tz lang : Int) :
    tzlang tz lang = if tz < -2048 ∨ tz > 4095 then .error (.fieldOutOfRange .tzH100 (-2048) 4095)
      else if lang < 0 ∨ lang > 15 then .error (.fieldOutOfRange .language 0 15)
      else .ok (be 2 ((tz % 4096).toNat * 16 + lang.toNat)) := by
  unfold tzlang
  split_ifs with zone language
  · rw [checkRange_of_outside _ zone, error_bind]
  · rw [checkRange_of_mem _ (by omega), ok_bind, checkRange_of_outside _ language, error_bind]
  · rw [checkRange_of_mem _ (by omega), ok_bind, checkRange_of_mem _ (by omega), ok_bind, tzlangWord_eq tz (by omega)]
    rfl

/-- Settles O13: in range, the zone's remainder mod 4096 is its 12-bit two's complement, which adding 4096 keeps. -/
theorem timeZoneWordIsTwosComplement : Obligations.TimeZoneWordIsTwosComplement := by
  refine ⟨fun tz lang => ?_, fun tz lang low negative => ?_⟩
  · rw [tzlang_eq_ite]
    split_ifs with zone language negative
    · rfl
    · rfl
    · rw [show tz % 4096 = tz + 4096 by omega]
    · rw [show tz % 4096 = tz by omega]
  · rw [tzlang_eq_ite, tzlang_eq_ite, if_neg (by omega : ¬ (tz < -2048 ∨ tz > 4095)),
      if_neg (by omega : ¬ (tz + 4096 < -2048 ∨ tz + 4096 > 4095)), Int.add_emod_right]

/-- The big-endian bytes of a value are those of its low digits alone. -/
theorem be_mod (n v : Nat) : be n (v % 256 ^ n) = be n v := by
  induction n generalizing v with
  | zero => rfl
  | succ n ih =>
    have first : BitVec.ofNat 8 ((v % 256 ^ (n + 1)) >>> (8 * n)) = BitVec.ofNat 8 (v >>> (8 * n)) := by
      apply BitVec.eq_of_toNat_eq
      have base : 2 ^ (8 * n) = 256 ^ n := pow_mul 2 8 n
      rw [BitVec.toNat_ofNat, BitVec.toNat_ofNat, Nat.shiftRight_eq_div_pow, Nat.shiftRight_eq_div_pow, base, pow_succ,
        Nat.mod_mul_right_div_self]
      exact Nat.mod_mod _ _
    have rest : be n (v % 256 ^ (n + 1)) = be n v := by
      rw [← ih (v % 256 ^ (n + 1)), Nat.mod_mod_of_dvd _ (pow_dvd_pow 256 n.le_succ), ih]
    rw [be_succ, be_succ, first, rest]

/-- Settles O14: without its first byte, the 4-byte value is the 3-byte value of its low 24 bits. -/
theorem cellIdKeepsTheLow24Bits : Obligations.CellIdKeepsTheLow24Bits := by
  refine fun v => ⟨fun low high => ?_, fun outside => ?_⟩
  · have low24 : be 3 (v.toNat % 2 ^ 24) = be 3 v.toNat := be_mod 3 v.toNat
    rw [low24, cell3, uintField_of_mem 4 .cellId ⟨low, high⟩, ok_bind]
    rfl
  · rw [cell3, uintField_of_outside 4 .cellId outside, error_bind]
    rfl

/-! ### The region -/

theorem frameLength_of_gt {n : Nat} (h : n + 5 > 255) : frameLength n = .error (.frameTooLarge (n + 5)) := by
  have length : 1 + n + 2 + checksumAllowance = n + 5 := by simp only [checksumAllowance]; omega
  simp only [frameLength, length, if_pos h]

/-- With a payload and a serial number that are accepted, only the length can still fail (R120). -/
theorem frameRegion_of_accepted (kind : Byte) (payload : List Byte) {serial : Int} (inside : 0 ≤ serial ∧ serial ≤ 65535) :
    frameRegion kind (.ok payload) serial = frameLength payload.length >>= fun length =>
      .ok ([BitVec.ofNat 8 length, kind] ++ payload ++ be 2 serial.toNat) := by
  rw [frameRegion, ok_bind, serialField_of_mem inside, ok_bind]
  rfl

theorem frameLength_ok {n length : Nat} (h : frameLength n = .ok length) : length = n + 5 := by
  by_cases fits : n + 5 ≤ 255
  · rw [frameLength_of_le fits] at h
    cases h
    rfl
  · rw [frameLength_of_gt (Nat.lt_of_not_le fits)] at h
    cases h

/-- What a region is made of: the length byte, the kind, the payload and the two bytes of the serial number (R132). -/
theorem region_of_frameRegion {kind : Byte} {payload : Except Error (List Byte)} {serial : Int} {region : List Byte}
    (h : frameRegion kind payload serial = .ok region) :
    ∃ bytes, payload = .ok bytes ∧
      region = [BitVec.ofNat 8 (bytes.length + 5), kind] ++ bytes ++ be 2 serial.toNat := by
  obtain ⟨bytes, hbytes, h⟩ := bind_eq_ok h
  obtain ⟨serialBytes, hserial, h⟩ := bind_eq_ok h
  obtain ⟨length, hlength, h⟩ := bind_eq_ok h
  cases h
  exact ⟨bytes, hbytes, by rw [uintField_ok hserial, frameLength_ok hlength]⟩

/-- Settles O15: the two branches of the length. -/
theorem regionCarriesLengthKindPayloadSerial : Obligations.RegionCarriesLengthKindPayloadSerial := by
  intro kind payload serial low high
  rw [frameRegion_of_accepted kind payload ⟨low, high⟩]
  refine ⟨fun fits => ⟨_, by rw [frameLength_of_le fits, ok_bind], rfl, by simp⟩, fun tooLong => ?_⟩
  rw [frameLength_of_gt tooLong, error_bind]

theorem YieldsBytes.length {n : Nat} {x : Except Error (List Byte)} {bytes : List Byte} (yields : YieldsBytes n x)
    (h : x = .ok bytes) : bytes.length = n := by
  subst h
  exact yields

/-- Settles O16: an error an operation ends with is a legal response, and `FrameTooLarge` is none. -/
theorem frameTooLargeIsUnreachable : Obligations.FrameTooLargeIsUnreachable := by
  refine ⟨fun _ _ _ _ _ => (serializeLogin_yields ..).length, fun _ _ _ _ _ _ _ => (serializeLocation_yields ..).length,
    fun _ _ _ _ _ _ _ _ => (serializeAlarm_yields ..).length, fun _ _ _ _ _ _ => (serializeHeartbeat_yields ..).length,
    fun i s t length next answers => ?_, frameLength_of_le (by decide), frameLength_of_gt (by decide)⟩
  exact error_legal ⟨t, next, answers⟩

/-! ### What a frame stores of its region -/

/-- Settles O24: the region's first byte counts the payload and five bytes more, the frame's length ten more. -/
theorem frameLengthByteIsLengthLessFive : Obligations.FrameLengthByteIsLengthLessFive := by
  intro i s f build ends
  obtain ⟨length, lengthByte, -⟩ := frameSizesAreFixedPerKind i s f build ends
  omega

/-- Between the start marker and the checksum stands the region, and then the checksum of just these bytes (R133). -/
theorem region_and_checksum_of_frame {i : Instr} {s : State} {f : List Byte} (build : isBuild i) (rom : Memory.wf s)
    (ends : EndsWith s (exec i s) (.ok f)) :
    (slice f 2 (f.length - 4)).length = f.length - 6 ∧
      slice f (f.length - 4) (f.length - 2) = be 2 (crc (slice f 2 (f.length - 4))).toNat := by
  obtain ⟨region, -, rfl⟩ := region_of_frame build ends
  have table : s.rom = romTable := rom
  have fourFromEnd : region.length + 6 - 4 = region.length + 2 := rfl
  have twoFromEnd : region.length + 6 - 2 = region.length + 4 := rfl
  have sixFromEnd : region.length + 6 - 6 = region.length := rfl
  rw [frameOf_length, fourFromEnd, twoFromEnd, sixFromEnd, slice_frameOf_region, slice_frameOf_checksum, table]
  exact ⟨rfl, rfl⟩

/-- A word from its two bytes, high byte first (R41). -/
theorem toNat_of_be_two {v : Word} {bytes : List Byte} (h : bytes = be 2 v.toNat) :
    v.toNat = (bytes.getD 0 0).toNat * 256 + (bytes.getD 1 0).toNat := by
  calc v.toNat
      = fromBe (be 2 v.toNat) := (fromBe_be_of_lt v.isLt).symm
    _ = (bytes.getD 0 0).toNat * 256 + (bytes.getD 1 0).toNat := by simp [h, be_succ, fromBe_cons]

/-- Settles O25: the two stored bytes, read back, are the checksum. -/
theorem frameChecksumMatchesItsRegion : Obligations.FrameChecksumMatchesItsRegion := by
  intro i s f build rom ends
  obtain ⟨length, -⟩ := frameSizesAreFixedPerKind i s f build ends
  obtain ⟨-, stored⟩ := region_and_checksum_of_frame build rom ends
  have second : f.length - 3 = f.length - 4 + 1 := by omega
  rw [toNat_of_be_two stored, getD_slice 0 (by omega), getD_slice 0 (by omega), second, Nat.add_zero]

/-- Settles O36: CHECKSUM of the region answers the checksum's two bytes, which are those the frame stores. -/
theorem checksumOverRegionConfirmsFrame : Obligations.ChecksumOverRegionConfirmsFrame := by
  intro i s s' f build rom rom' ends accepted
  obtain ⟨length, stored⟩ := region_and_checksum_of_frame build rom ends
  exact exec_checksum_ends_with_bytes rom' (length ▸ accepted) stored.symm

/-! ### The serial number's place in a frame -/

/-- Every build frames a payload that does not depend on the serial number. -/
theorem regionOf_withSerial (satellites : Byte) {i : Instr} (build : isBuild i) :
    ∃ payload, ∀ n, regionOf satellites (withSerial n i) = some (frameRegion i.selector payload n) := by
  cases i with
  | buildLogin | buildHeartbeat | buildLocation | buildAlarm => exact ⟨_, fun _ => rfl⟩
  | checksum => cases build

theorem isBuild_withSerial (n : Int) (i : Instr) : isBuild (withSerial n i) = isBuild i := by
  cases i with
  | buildLogin | buildHeartbeat | buildLocation | buildAlarm | checksum => rfl

theorem payloadLength_withSerial (n : Int) (i : Instr) : payloadLength (withSerial n i) = payloadLength i := by
  cases i with
  | buildLogin | buildHeartbeat | buildLocation | buildAlarm | checksum => rfl

/-- Up to the payload's end a frame is fixed by its kind and payload; then come the serial number and the checksum, two
bytes each, and the terminator (R64). -/
theorem frame_withSerial {i : Instr} {n : Int} {s : State} {f : List Byte} {payload : Except Error (List Byte)}
    (build : isBuild i)
    (hpayload : regionOf s.params.satellites (withSerial n i) = some (frameRegion i.selector payload n))
    (ends : EndsWith s (exec (withSerial n i) s) (.ok f)) :
    ∃ bytes checksum, payload = .ok bytes ∧ bytes.length = payloadLength i ∧
      f = startMarker ++ [BitVec.ofNat 8 (bytes.length + 5), i.selector] ++ bytes ++ (be 2 n.toNat ++ be 2 checksum)
        ++ terminator := by
  obtain ⟨region, hregion, hf⟩ := region_of_frame (isBuild_withSerial n i ▸ build) ends
  have regionLength := (regionOfKind_of_regionOf hregion).length
  generalize crcWith s.rom region = checksum at hf
  obtain ⟨bytes, hbytes, rfl⟩ := region_of_frameRegion (Option.some.inj (hpayload.symm.trans hregion))
  have length : bytes.length = payloadLength i := by simpa [payloadLength_withSerial] using regionLength
  exact ⟨bytes, checksum.toNat, hbytes, length, by rw [hf]; simp only [frameOf, List.append_assoc]⟩

/-- Two strings that differ only in a middle part of one length agree outside it. -/
theorem getElem?_append_middle {before middle middle' after : List Byte} (same : middle.length = middle'.length) {k : Nat}
    (outside : k < before.length ∨ before.length + middle.length ≤ k) :
    (before ++ middle ++ after)[k]? = (before ++ middle' ++ after)[k]? := by
  rcases outside with inBefore | inAfter
  · simp only [List.append_assoc, List.getElem?_append_left inBefore]
  · rw [List.getElem?_append_right (by simpa using inAfter),
      List.getElem?_append_right (by simpa [same] using inAfter), List.length_append, List.length_append, same]

/-- Settles O30: the two frames are the same bytes around the serial number and the checksum. -/
theorem serialChangesOnlySerialAndChecksum : Obligations.SerialChangesOnlySerialAndChecksum := by
  intro i n m s f f' build ends ends'
  obtain ⟨payload, hpayload⟩ := regionOf_withSerial s.params.satellites build
  obtain ⟨bytes, checksum, hbytes, length, rfl⟩ := frame_withSerial build (hpayload n) ends
  obtain ⟨bytes', checksum', hbytes', -, rfl⟩ := frame_withSerial build (hpayload m) ends'
  cases hbytes.symm.trans hbytes'
  refine ⟨by simp, fun k outside => getElem?_append_middle (by simp) ?_⟩
  simp only [List.length_append, startMarker, List.length_cons, List.length_nil, be_length, length]
  omega

end Sys2Proof.Machine

/-! The four builds, whole: every serializer against the rows of its table in layout order, the frame around its payload or
the first row's error, and the worked examples (R63, R64, R70 to R73, R120, R150 to R154, R207). -/

namespace Sys2Proof.Machine

/-! ### Encoders against the rows they check -/

/-- `x` gives `bytes`, unless there is an `error` to raise. -/
def Encodes (error : Option Error) (bytes : List Byte) (x : Except Error (List Byte)) : Prop :=
  x = error.elim (.ok bytes) .error

/-- `x` gives `bytes` where every row accepts its operand, and else raises the error of the first row that does not. -/
abbrev EncodesRows (rows : List FieldCheck) (bytes : List Byte) (x : Except Error (List Byte)) : Prop :=
  Encodes (firstOutOfRange rows) bytes x

/-- Sequencing: the first error wins, and the rest runs on the bytes of the first part. -/
theorem Encodes.bind {error error' : Option Error} {bytes bytes' : List Byte} {x : Except Error (List Byte)}
    {k : List Byte → Except Error (List Byte)} (hx : Encodes error bytes x) (hk : Encodes error' bytes' (k bytes)) :
    Encodes (error.or error') bytes' (x >>= k) := by
  subst hx
  cases error with
  | none => exact hk
  | some e => rfl

theorem firstOutOfRange_append (rows rows' : List FieldCheck) :
    firstOutOfRange (rows ++ rows') = (firstOutOfRange rows).or (firstOutOfRange rows') := by
  induction rows with
  | nil => rfl
  | cons row rows ih =>
    simp only [List.cons_append, firstOutOfRange, ih]
    split <;> rfl

theorem EncodesRows.append {rows rows' : List FieldCheck} {bytes bytes' : List Byte} {x : Except Error (List Byte)}
    {k : List Byte → Except Error (List Byte)} (hx : EncodesRows rows bytes x) (hk : EncodesRows rows' bytes' (k bytes)) :
    EncodesRows (rows ++ rows') bytes' (x >>= k) := by
  rw [EncodesRows, firstOutOfRange_append]
  exact hx.bind hk

/-- One field, and then the rest of the layout. -/
theorem EncodesRows.cons {row : FieldCheck} {rows : List FieldCheck} {bytes bytes' : List Byte}
    {x : Except Error (List Byte)} {k : List Byte → Except Error (List Byte)} (hx : EncodesRows [row] bytes x)
    (hk : EncodesRows rows bytes' (k bytes)) : EncodesRows (row :: rows) bytes' (x >>= k) :=
  hx.append hk

theorem EncodesRows.pure (bytes : List Byte) : EncodesRows [] bytes (Pure.pure bytes) := rfl

theorem encodesRows_singleton {row : FieldCheck} {bytes : List Byte} {x : Except Error (List Byte)}
    (h : x = if row.accepted then .ok bytes else .error (.fieldOutOfRange row.id row.lo row.hi)) :
    EncodesRows [row] bytes x := by
  rw [h, EncodesRows, Encodes, firstOutOfRange]
  split <;> rfl

/-! ### The fields -/

theorem uintField_encodes (w : Nat) (id : FieldId) (v : Int) :
    EncodesRows [.int id 0 (uintMax w) v] (be w v.toNat) (uintField w id v) :=
  encodesRows_singleton (uintField_eq w id v)

theorem fixLat_encodes (id : FieldId) (q : Rat) :
    EncodesRows [.scaled id 1800000 4294967295 q] (be 4 (trunc (q * 1800000)).toNat) (fixLat id q) := by
  have scaled : truncScaled q 1800000 = trunc (q * 1800000) := truncScaled_eq_trunc q 1800000
  exact encodesRows_singleton (scaled ▸ fixLat_eq id q)

theorem fixVolt_encodes (q : Rat) :
    EncodesRows [.scaled .voltage 100 65535 q] (be 2 (trunc (q * 100)).toNat) (fixVolt q) := by
  have scaled : truncScaled q 100 = trunc (q * 100) := truncScaled_eq_trunc q 100
  exact encodesRows_singleton (scaled ▸ fixVolt_eq q)

theorem cell3_encodes (v : Int) :
    EncodesRows [.int .cellId 0 4294967295 v] (be 3 (v % 2 ^ 24).toNat) (cell3 v) := by
  obtain ⟨inRange, outOfRange⟩ := cellIdKeepsTheLow24Bits v
  refine encodesRows_singleton ?_
  split
  · next accepted =>
    obtain ⟨low, high⟩ := (accepted_int_iff ..).mp accepted
    rw [inRange low high, Int.toNat_emod low (by decide)]
    rfl
  · next rejected =>
    rw [accepted_int_iff] at rejected
    exact outOfRange (by omega)

theorem tzlang_encodes (tz lang : Int) :
    EncodesRows [.int .tzH100 (-2048) 4095 tz, .int .language 0 15 lang]
      (be 2 ((tz % 4096).toNat * 16 + lang.toNat)) (tzlang tz lang) := by
  rw [EncodesRows, Encodes, tzlang_eq_ite]
  simp only [firstOutOfRange, accepted_int_iff]
  by_cases zone : -2048 ≤ tz ∧ tz ≤ 4095
  · rw [if_neg (by omega), if_pos zone]
    by_cases language : 0 ≤ lang ∧ lang ≤ 15
    · rw [if_neg (by omega), if_pos language]
      rfl
    · rw [if_pos (by omega), if_neg language]
      rfl
  · rw [if_pos (by omega), if_neg zone]
    rfl

/-- The error of an identity that is not a non-empty digit string (R124). -/
def identityError (i : Instr) : Option Error := if i.identityAccepted then none else some .invalidIdentity

theorem firstError_eq (i : Instr) : i.firstError = (identityError i).or (firstOutOfRange i.checks) := by
  unfold Instr.firstError identityError
  split <;> rfl

theorem identityAccepted_buildLogin_iff (identity : List Byte) (modelCode tz lang serial : Int) :
    (Instr.buildLogin identity modelCode tz lang serial).identityAccepted ↔
      identity ≠ [] ∧ ∀ ch ∈ identity, 0x30 ≤ ch.toNat ∧ ch.toNat ≤ 0x39 := by
  simp [Instr.identityAccepted, BitVec.le_def]

theorem identField_encodes (identity : List Byte) (modelCode tz lang serial : Int) :
    Encodes (identityError (.buildLogin identity modelCode tz lang serial)) (be 8 (decimalValue identity % 2 ^ 64))
      (identField identity) := by
  rw [Encodes, identField_eq_ite, identityError]
  simp only [identityAccepted_buildLogin_iff]
  split <;> rfl

/-! ### The payloads -/

theorem dateTime_encodes (g : GeoOperands) :
    EncodesRows (g.checks.take 6)
      (be 1 g.year.toNat ++ be 1 g.month.toNat ++ be 1 g.day.toNat ++ be 1 g.hour.toNat ++ be 1 g.minute.toNat
        ++ be 1 g.second.toNat)
      (dateTime g) :=
  (uintField_encodes ..).cons <| (uintField_encodes ..).cons <| (uintField_encodes ..).cons <|
    (uintField_encodes ..).cons <| (uintField_encodes ..).cons <| (uintField_encodes ..).cons <| .pure _

theorem geo_encodes (satellites : Byte) (g : GeoOperands) :
    EncodesRows g.checks (geoPayload satellites g) (geo satellites g) := by
  rw [← List.take_append_drop 6 g.checks]
  refine (dateTime_encodes g).append ?_
  exact (fixLat_encodes ..).cons <| (fixLat_encodes ..).cons <| (uintField_encodes ..).cons <|
    (uintField_encodes ..).cons <| (uintField_encodes ..).cons <| (uintField_encodes ..).cons <|
    (uintField_encodes ..).cons <| (cell3_encodes ..).cons <| .pure _

theorem serializeLogin_encodes (identity : List Byte) (modelCode tz lang serial : Int) :
    Encodes ((identityError (.buildLogin identity modelCode tz lang serial)).or (firstOutOfRange
        [.int .modelCode 0 65535 modelCode, .int .tzH100 (-2048) 4095 tz, .int .language 0 15 lang]))
      (loginPayload identity modelCode tz lang) (serializeLogin identity modelCode tz lang) :=
  (identField_encodes identity modelCode tz lang serial).bind <| (uintField_encodes ..).cons <|
    (tzlang_encodes ..).append <| .pure _

theorem serializeLocation_encodes (satellites : Byte) (g : GeoOperands) (acc uploadMode reupload odometer : Int) :
    EncodesRows (g.checks ++ [.int .acc 0 255 acc, .int .uploadMode 0 255 uploadMode, .int .reupload 0 255 reupload,
        .int .odometer 0 4294967295 odometer])
      (locationPayload satellites g acc uploadMode reupload odometer)
      (serializeLocation satellites g acc uploadMode reupload odometer) :=
  (geo_encodes satellites g).append <| (uintField_encodes ..).cons <| (uintField_encodes ..).cons <|
    (uintField_encodes ..).cons <| (uintField_encodes ..).cons <| .pure _

theorem serializeAlarm_encodes (satellites : Byte) (g : GeoOperands)
    (terminalStatus battery signal alarmLanguage odometer : Int) :
    EncodesRows (g.checks ++ [.int .terminalStatus 0 255 terminalStatus, .int .battery 0 255 battery,
        .int .signal 0 255 signal, .int .alarmLanguage 0 65535 alarmLanguage, .int .odometer 0 4294967295 odometer])
      (alarmPayload satellites g terminalStatus battery signal alarmLanguage odometer)
      (serializeAlarm satellites g terminalStatus battery signal alarmLanguage odometer) :=
  (geo_encodes satellites g).append <| (uintField_encodes ..).cons <| (uintField_encodes ..).cons <|
    (uintField_encodes ..).cons <| (uintField_encodes ..).cons <| (uintField_encodes ..).cons <| .pure _

theorem serializeHeartbeat_encodes (terminalStatus : Int) (volts : Rat) (battery signal languagePort : Int) :
    EncodesRows [.int .terminalStatus 0 255 terminalStatus, .scaled .voltage 100 65535 volts, .int .battery 0 255 battery,
      .int .signal 0 255 signal, .int .languagePort 0 65535 languagePort]
      (heartbeatPayload terminalStatus volts battery signal languagePort)
      (serializeHeartbeat terminalStatus volts battery signal languagePort) :=
  (uintField_encodes ..).cons <| (fixVolt_encodes ..).cons <| (uintField_encodes ..).cons <|
    (uintField_encodes ..).cons <| (uintField_encodes ..).cons <| .pure _

/-! ### The region -/

/-- The region of R64 around a payload and a serial number. -/
def regionLayout (kind : Byte) (payload : List Byte) (serial : Nat) : List Byte :=
  BitVec.ofNat 8 (payload.length + 5) :: kind :: (payload ++ be 2 serial)

theorem frameOf_regionLayout (rom : Vector Word 256) (kind : Byte) (payload : List Byte) (serial : Nat) :
    frameOf (regionLayout kind payload serial) (crcWith rom (regionLayout kind payload serial)) =
      frameLayout rom kind payload serial := rfl

/-- The serial number is checked after the payload, and a payload that fits the length byte adds no error (R120, R207). -/
theorem frameRegion_encodes {error : Option Error} {payload : List Byte} {x : Except Error (List Byte)} {n : Nat}
    (kind : Byte) (serial : Int) (hx : Encodes error payload x) (yields : YieldsBytes n x) (fits : n + 5 ≤ 255) :
    Encodes (error.or (firstOutOfRange [.serial serial])) (regionLayout kind payload serial.toNat)
      (frameRegion kind x serial) := by
  subst hx
  cases error with
  | some e => rfl
  | none =>
    refine (uintField_encodes 2 .serial serial).cons ?_
    have length : payload.length = n := yields
    rw [frameLength_of_le (length ▸ fits), ok_bind]
    exact .pure _

/-! ### The operations -/

/-- From `s` the build `i` answers the frame `f` when every operand is accepted, and otherwise its first error. -/
def AnswersFrameOrFirstError (i : Instr) (s : State) (f : List Byte) : Prop :=
  (i.wellFormed → ∃ t, exec i s = .next t ∧ Answers s t (.ok f) ∧ TraceAfter s t (frameEvents i f)) ∧
    ∀ e, i.firstError = some e → ∃ t, exec i s = .next t ∧ Answers s t (.err e) ∧ TraceAfter s t [.frameBuild i (.err e)]

theorem frameEvents_frameOf (i : Instr) (region : List Byte) (checksum : Word) :
    frameEvents i (frameOf region checksum) = [.checksumInput region, .frameBuild i (.ok (frameOf region checksum))] := by
  have fourFromEnd : region.length + 6 - 4 = region.length + 2 := rfl
  rw [frameEvents, frameOf_length, fourFromEnd, slice_frameOf_region]

/-- A build answers the frame around its payload, or its first error, once its serializer is held to every check before
the serial number's. -/
theorem answersFrameOrFirstError_of_payload {i : Instr} {s : State} {error : Option Error} {kind : Byte}
    {x : Except Error (List Byte)} {payload : List Byte} {n : Nat} {serial : Int}
    (region : regionOf s.params.satellites i = some (frameRegion kind x serial))
    (encodes : Encodes error payload x) (first : i.firstError = error.or (firstOutOfRange [.serial serial]))
    (yields : YieldsBytes n x) (fits : n + 5 ≤ 255) :
    AnswersFrameOrFirstError i s (frameLayout s.rom kind payload serial.toNat) := by
  have framed := frameRegion_encodes kind serial encodes yields fits
  rw [← first, Encodes] at framed
  refine ⟨fun wellFormed => ?_, fun e failed => ?_⟩
  · rw [framed, Option.isNone_iff_eq_none.mp wellFormed] at region
    rw [← frameOf_regionLayout, frameEvents_frameOf]
    exact ⟨_, exec_of_regionOf region, conclude_answers _ _ s, conclude_traceAfter _ _ s⟩
  · rw [framed, failed] at region
    exact ⟨_, exec_of_regionOf region, conclude_answers _ _ s, conclude_traceAfter _ _ s⟩

/-- The same where every check is a row: the serial number's is the last. -/
theorem answersFrameOrFirstError_of_rows {i : Instr} {s : State} {rows : List FieldCheck} {kind : Byte}
    {x : Except Error (List Byte)} {payload : List Byte} {n : Nat} {serial : Int}
    (region : regionOf s.params.satellites i = some (frameRegion kind x serial)) (encodes : EncodesRows rows payload x)
    (first : i.firstError = firstOutOfRange (rows ++ [.serial serial])) (yields : YieldsBytes n x) (fits : n + 5 ≤ 255) :
    AnswersFrameOrFirstError i s (frameLayout s.rom kind payload serial.toNat) :=
  answersFrameOrFirstError_of_payload region encodes (first.trans (firstOutOfRange_append _ _)) yields fits

/-- Settles O17: the identity is checked before every row, and the serial number after them. -/
theorem buildLoginAnswersFrameOrFirstError : Obligations.BuildLoginAnswersFrameOrFirstError := by
  intro identity modelCode tz lang serial s
  refine answersFrameOrFirstError_of_payload rfl (serializeLogin_encodes identity modelCode tz lang serial) ?_
    (serializeLogin_yields ..) (by decide)
  rw [firstError_eq, Option.or_assoc, ← firstOutOfRange_append]
  rfl

/-- Settles O18: the serializer checks the rows of R71 in layout order. -/
theorem buildLocationAnswersFrameOrFirstError : Obligations.BuildLocationAnswersFrameOrFirstError :=
  fun _ _ _ _ _ _ _ =>
    answersFrameOrFirstError_of_rows rfl (serializeLocation_encodes ..) rfl (serializeLocation_yields ..) (by decide)

/-- Settles O19: the serializer checks the rows of R72 in layout order. -/
theorem buildAlarmAnswersFrameOrFirstError : Obligations.BuildAlarmAnswersFrameOrFirstError :=
  fun _ _ _ _ _ _ _ _ =>
    answersFrameOrFirstError_of_rows rfl (serializeAlarm_encodes ..) rfl (serializeAlarm_yields ..) (by decide)

/-- Settles O20: the serializer checks the rows of R73 in layout order; the voltage's row accepts what truncates to 0
(log 20). -/
theorem buildHeartbeatAnswersFrameOrFirstError : Obligations.BuildHeartbeatAnswersFrameOrFirstError :=
  fun _ _ _ _ _ _ _ =>
    answersFrameOrFirstError_of_rows rfl (serializeHeartbeat_encodes ..) rfl (serializeHeartbeat_yields ..) (by decide)

/-! ### The worked examples -/

/-- A well-formed build answers the frame worked out on the spec's table. -/
theorem AnswersFrameOrFirstError.endsWith {i : Instr} {s : State} {kind : Byte} {payload f : List Byte} {serial : Nat}
    (answers : AnswersFrameOrFirstError i s (frameLayout s.rom kind payload serial)) (rom : Memory.wf s)
    (wellFormed : i.wellFormed) (value : frameLayout romTable kind payload serial = f) : EndsWith s (exec i s) (.ok f) := by
  obtain ⟨frame, -⟩ := answers
  rw [show s.rom = romTable from rom, value] at frame
  obtain ⟨t, next, ends, -⟩ := frame wellFormed
  exact ⟨t, next, ends⟩

/-- Settles O21: each request is well formed, and its frame is the layout's on the spec's table. -/
theorem buildWorkedExamples : Obligations.BuildWorkedExamples := by
  intro s rom g
  have login (identity modelCode tz lang serial) := buildLoginAnswersFrameOrFirstError identity modelCode tz lang serial s
  have heartbeat (ts volts bat sig lp serial) := buildHeartbeatAnswersFrameOrFirstError ts volts bat sig lp serial s
  have location := buildLocationAnswersFrameOrFirstError g 1 0 0 123456 2 s
  have alarm := buildAlarmAnswersFrameOrFirstError g 0x44 4 3 0x0102 123456 3 s
  refine ⟨AnswersFrameOrFirstError.endsWith (login ..) rom (by decide) (by decide),
    AnswersFrameOrFirstError.endsWith (heartbeat ..) rom (by decide +kernel) (by decide +kernel),
    AnswersFrameOrFirstError.endsWith (heartbeat ..) rom (by decide +kernel) (by decide +kernel), fun satellites => ?_⟩
  rw [satellites] at location alarm
  exact ⟨AnswersFrameOrFirstError.endsWith location rom (by decide +kernel) (by decide +kernel),
    AnswersFrameOrFirstError.endsWith alarm rom (by decide +kernel) (by decide +kernel)⟩

end Sys2Proof.Machine

/-! The receiver's reference functions (R180, R183): the exact conditions of the frame check, why it finds every change of
one byte, and the acknowledgement's kind. -/

namespace Sys2Proof.Machine

/-! ### The frame check, said once -/

/-- What the frame check tests before the checksum (R180): the size, the two markers and the length byte. -/
structure WellFramed (f : List Byte) : Prop where
  long : 10 ≤ f.length
  start : slice f 0 2 = startMarker
  ending : slice f (f.length - 2) f.length = terminator
  lengthByte : (f.getD 2 0).toNat = f.length - 5

/-- The stored checksum is the one of the region (R180). -/
def ChecksumStored (f : List Byte) : Prop :=
  (crc (slice f 2 (f.length - 4))).toNat = fromBe (slice f (f.length - 4) (f.length - 2))

/-- The inversion of the frame check: each verdict with its condition. -/
theorem frameCheck_cases (f : List Byte) :
    (¬ WellFramed f ∧ frameCheck f = .malformedFrame) ∨
      (WellFramed f ∧ ¬ ChecksumStored f ∧ frameCheck f = .checksumMismatch) ∨
      (WellFramed f ∧ ChecksumStored f ∧ frameCheck f = .frameOk) := by
  unfold frameCheck
  split_ifs with short start ending lengthByte checksum
  · exact .inl ⟨fun framed => absurd framed.long (Nat.not_le.mpr short), rfl⟩
  · exact .inl ⟨fun framed => start framed.start, rfl⟩
  · exact .inl ⟨fun framed => ending framed.ending, rfl⟩
  · exact .inl ⟨fun framed => lengthByte framed.lengthByte, rfl⟩
  · exact .inr (.inl ⟨⟨Nat.not_lt.mp short, not_not.mp start, not_not.mp ending, not_not.mp lengthByte⟩, checksum, rfl⟩)
  · exact .inr (.inr ⟨⟨Nat.not_lt.mp short, not_not.mp start, not_not.mp ending, not_not.mp lengthByte⟩,
      not_not.mp checksum, rfl⟩)

theorem frameCheck_eq_malformedFrame_iff {f : List Byte} : frameCheck f = .malformedFrame ↔ ¬ WellFramed f := by
  rcases frameCheck_cases f with ⟨bad, verdict⟩ | ⟨framed, -, verdict⟩ | ⟨framed, -, verdict⟩
  · simp [verdict, bad]
  · simp [verdict, framed]
  · simp [verdict, framed]

theorem frameCheck_eq_checksumMismatch_iff {f : List Byte} :
    frameCheck f = .checksumMismatch ↔ WellFramed f ∧ ¬ ChecksumStored f := by
  rcases frameCheck_cases f with ⟨bad, verdict⟩ | ⟨framed, stored, verdict⟩ | ⟨framed, stored, verdict⟩
  · simp [verdict, bad]
  · simp [verdict, framed, stored]
  · simp [verdict, stored]

theorem frameCheck_eq_frameOk_iff {f : List Byte} : frameCheck f = .frameOk ↔ WellFramed f ∧ ChecksumStored f := by
  rcases frameCheck_cases f with ⟨bad, verdict⟩ | ⟨framed, stored, verdict⟩ | ⟨framed, stored, verdict⟩
  · simp [verdict, bad]
  · simp [verdict, stored]
  · simp [verdict, framed, stored]

/-- Settles O34: the fields of `WellFramed` written out; a wrong length byte is against the last of them. -/
theorem checksumMismatchCondition : Obligations.ChecksumMismatchCondition := by
  refine fun f => ⟨frameCheck_eq_checksumMismatch_iff.trans ⟨?_, ?_⟩, fun wrong => ?_⟩
  · rintro ⟨⟨long, start, ending, lengthByte⟩, mismatch⟩
    exact ⟨long, start, ending, lengthByte, mismatch⟩
  · rintro ⟨long, start, ending, lengthByte, mismatch⟩
    exact ⟨⟨long, start, ending, lengthByte⟩, mismatch⟩
  · exact frameCheck_eq_malformedFrame_iff.mpr fun framed => wrong framed.lengthByte

/-! ### The acknowledgement and the frames of the block -/

/-- Settles O35: index 3 is inside a string of 4 bytes or more, and outside a shorter one. -/
theorem ackKindIsTheFourthByte : Obligations.AckKindIsTheFourthByte := by
  refine fun resp => ⟨fun long => ?_, fun short => ?_⟩
  · rw [ackKind, List.getElem?_eq_getElem long, List.getD_eq_getElem _ _ long]
  · rw [ackKind, List.getElem?_eq_none (Nat.le_of_lt_succ short)]

/-- Settles O31: the frame stands around a region of its kind, with the checksum of the spec's table. -/
theorem everyFramePassesTheFrameCheck : Obligations.EveryFramePassesTheFrameCheck := by
  intro i s f build rom ends
  obtain ⟨region, hregion, rfl⟩ := region_of_frame build ends
  rw [show s.rom = romTable from rom]
  exact (regionOfKind_of_regionOf hregion).frameOk (payloadLength_fits i)

/-! ### The checksum tells two strings apart that differ in one byte -/

/-- A bit-serial step loses nothing: the polynomial's top bit keeps the bit that is shifted out. -/
theorem bitStep_injective : Function.Injective bitStep := by
  intro x y same
  have top (z : Word) : (bitStep z).getLsbD 15 = z.getLsbD 0 := by
    rw [bitStep_eq]
    cases z.getLsbD 0 <;> simp [crcPolynomial]
  have lowBit : x.getLsbD 0 = y.getLsbD 0 := by rw [← top, same, top]
  have highBits : x >>> 1 = y >>> 1 := by
    rw [bitStep_eq, bitStep_eq, lowBit] at same
    exact (BitVec.xor_left_inj _).mp same
  ext i hi
  cases i with
  | zero => exact lowBit
  | succ i =>
    have shifted := congrArg (BitVec.getLsbD · i) highBits
    simpa [Nat.add_comm 1 i, BitVec.getLsbD_eq_getElem hi] using shifted

theorem bitSteps_injective (n : Nat) : Function.Injective (bitSteps n) := by
  induction n with
  | zero => exact fun _ _ same => same
  | succ n ih => exact ih.comp bitStep_injective

theorem crcStep_injective (b : Byte) : Function.Injective fun c => crcStep romTable c b := by
  intro c c' same
  simp only [crcStep_romTable] at same
  exact (BitVec.xor_left_inj _).mp (bitSteps_injective 8 same)

theorem crcStep_byte_injective (c : Word) : Function.Injective (crcStep romTable c) := by
  intro b b' same
  rw [crcStep_romTable, crcStep_romTable] at same
  have wide : b.setWidth 16 = b'.setWidth 16 := (BitVec.xor_right_inj _).mp (bitSteps_injective 8 same)
  simpa using congrArg (BitVec.setWidth 8) wide

theorem foldl_crcStep_injective (bs : List Byte) : Function.Injective (bs.foldl (crcStep romTable)) := by
  induction bs with
  | nil => exact fun _ _ same => same
  | cons b bs ih => exact ih.comp (crcStep_injective b)

theorem crc_append_cons_inj {before after : List Byte} {b b' : Byte} :
    crc (before ++ b :: after) = crc (before ++ b' :: after) ↔ b = b' := by
  refine ⟨fun same => ?_, fun same => by rw [same]⟩
  simp only [crc, crcWith, List.foldl_append, List.foldl_cons] at same
  exact crcStep_byte_injective _ (foldl_crcStep_injective after ((BitVec.xor_left_inj _).mp same))

theorem crc_set_ne {bs : List Byte} {k : Nat} {b : Byte} (inside : k < bs.length) (changed : bs[k]? ≠ some b) :
    crc (bs.set k b) ≠ crc bs := by
  have parts : bs = bs.take k ++ bs[k] :: bs.drop (k + 1) := by simp
  intro same
  rw [List.set_eq_take_append_cons_drop, if_pos inside] at same
  conv_rhs at same => rw [parts]
  exact changed (by rw [List.getElem?_eq_getElem inside, crc_append_cons_inj.mp same])

/-! ### A changed byte in a frame -/

theorem slice_set_outside {f : List Byte} {k a c : Nat} (b : Byte) (outside : k < a ∨ c ≤ k) :
    slice (f.set k b) a c = slice f a c := by
  unfold slice
  rcases outside with before | after
  · rw [List.drop_set_of_lt before]
  · rw [List.drop_set]
    split
    · rfl
    · rw [List.take_set, List.set_eq_of_length_le]
      simp
      omega

theorem slice_set_inside {f : List Byte} {k a c : Nat} (b : Byte) (inside : a ≤ k) :
    slice (f.set k b) a c = (slice f a c).set (k - a) b := by
  rw [slice, slice, List.drop_set, if_neg (Nat.not_lt.mpr inside), List.take_set]

theorem getElem?_slice {f : List Byte} {k a c : Nat} (low : a ≤ k) (high : k < c) : (slice f a c)[k - a]? = f[k]? := by
  rw [slice, List.getElem?_take_of_lt (by omega), List.getElem?_drop, Nat.add_sub_cancel' low]

theorem slice_length {f : List Byte} {a c : Nat} (fits : c ≤ f.length) : (slice f a c).length = c - a := by
  rw [slice, List.length_take, List.length_drop]
  omega

/-- The markers and the length byte stand outside the kind, the payload and the serial number. -/
theorem WellFramed.set {f : List Byte} {k : Nat} (framed : WellFramed f) (b : Byte) (low : 3 ≤ k)
    (high : k < f.length - 4) : WellFramed (f.set k b) where
  long := by rw [List.length_set]; exact framed.long
  start := by rw [slice_set_outside b (by omega)]; exact framed.start
  ending := by rw [List.length_set, slice_set_outside b (by omega)]; exact framed.ending
  lengthByte := by
    have other : k ≠ 2 := by omega
    rw [List.length_set, List.getD_eq_getElem?_getD, List.getElem?_set_ne other, ← List.getD_eq_getElem?_getD]
    exact framed.lengthByte

/-- Settles O33: the change leaves everything but the checksum of the region, which it always moves. -/
theorem singleByteCorruptionIsDetected : Obligations.SingleByteCorruptionIsDetected := by
  intro f k b ok low high changed
  obtain ⟨framed, stored⟩ := frameCheck_eq_frameOk_iff.mp ok
  have inRegion : k - 2 < (slice f 2 (f.length - 4)).length := by rw [slice_length (Nat.sub_le ..)]; omega
  have changedInRegion : (slice f 2 (f.length - 4))[k - 2]? ≠ some b := by rwa [getElem?_slice (by omega) high]
  refine frameCheck_eq_checksumMismatch_iff.mpr ⟨framed.set b low high, fun stored' => ?_⟩
  rw [ChecksumStored, List.length_set, slice_set_inside b (by omega), slice_set_outside b (.inl high)] at stored'
  exact crc_set_ne inRegion changedInRegion (BitVec.eq_of_toNat_eq (stored'.trans stored.symm))

end Sys2Proof.Machine

/-! The reference decoder on the frames of the block (R181, R182): every field is read back where the layout of its kind puts
it, which gives the canonical form of the request. -/

namespace Sys2Proof.Machine

/-! ### Fields of a layout -/

/-- A field behind a part of the layout is a field of what comes after that part. -/
theorem fieldAt_append {before : List Byte} {n offset : Nat} (after : List Byte) (size : Nat) (length : before.length = n)
    (behind : n ≤ offset) : fieldAt (before ++ after) offset size = fieldAt after (offset - n) size := by
  have drops : (before ++ after).drop offset = after.drop (offset - n) := by
    rw [List.drop_append, List.drop_eq_nil_of_le (length ▸ behind), List.nil_append, length]
  rw [fieldAt, fieldAt, slice, slice, drops]
  congr 2
  omega

theorem fieldAt_skip_be {n offset : Nat} (v : Nat) (after : List Byte) (size : Nat) (behind : n ≤ offset) :
    fieldAt (be n v ++ after) offset size = fieldAt after (offset - n) size :=
  fieldAt_append after size (be_length n v) behind

/-- The field at the front of a layout reads back as its value, if that fits. -/
theorem fieldAt_zero_be {n v : Nat} (after : List Byte) (fits : v < 256 ^ n) : fieldAt (be n v ++ after) 0 n = v := by
  have front : slice (be n v ++ after) 0 (0 + n) = be n v := slice_eq_of_append [] (be n v) after rfl rfl (by simp)
  rw [fieldAt, front, fromBe_be_of_lt fits]

theorem singleton_eq_be (b : Byte) : [b] = be 1 b.toNat := by simp [be_succ]

/-! ### Operands of a well-formed request -/

theorem accepted_of_firstOutOfRange_none {rows : List FieldCheck} (noError : firstOutOfRange rows = none) :
    ∀ row ∈ rows, row.accepted := by
  induction rows with
  | nil => exact nofun
  | cons row rows ih =>
    rw [firstOutOfRange] at noError
    split at noError
    · next accepted => exact List.forall_mem_cons.mpr ⟨accepted, ih noError⟩
    · cases noError

theorem accepted_of_wellFormed {i : Instr} (wellFormed : i.wellFormed) : ∀ row ∈ i.checks, row.accepted := by
  have noError := Option.isNone_iff_eq_none.mp wellFormed
  rw [firstError_eq, Option.or_eq_none_iff] at noError
  obtain ⟨-, rows⟩ := noError
  exact accepted_of_firstOutOfRange_none rows

theorem accepted_serial_iff (v : Int) : (FieldCheck.serial v).accepted ↔ 0 ≤ v ∧ v ≤ 65535 := accepted_int_iff ..

/-- A fixed-point operand is accepted when its truncated value is in range (D5). -/
theorem accepted_scaled_iff (id : FieldId) (scale hi : Nat) (q : Rat) :
    (FieldCheck.scaled id scale hi q).accepted ↔ 0 ≤ trunc (q * scale) ∧ trunc (q * scale) ≤ hi := by
  rw [← truncScaled_range, accepted_int_iff, truncScaled_eq_trunc]

/-- A build that ends with a frame has accepted every operand, and the frame is the one of its layout. -/
theorem AnswersFrameOrFirstError.of_frame {i : Instr} {s : State} {f g : List Byte} (answers : AnswersFrameOrFirstError i s g)
    (ends : EndsWith s (exec i s) (.ok f)) : i.wellFormed ∧ f = g := by
  obtain ⟨frame, error⟩ := answers
  cases first : i.firstError with
  | some e =>
    obtain ⟨t, next, failed, -⟩ := error e first
    cases ends.eq_of_next next failed
  | none =>
    have wellFormed : i.wellFormed := Option.isNone_iff_eq_none.mpr first
    obtain ⟨t, next, succeeded, -⟩ := frame wellFormed
    cases ends.eq_of_next next succeeded
    exact ⟨wellFormed, rfl⟩

/-! ### The decoder on each kind's layout -/

/-- In a frame, the start marker, the length byte and the kind stand before the payload, and the serial number after it
(R64). -/
theorem frameLayout_eq (rom : Vector Word 256) (kind : Byte) (payload : List Byte) (serial : Nat) :
    ∃ before after, before.length = 4 ∧
      frameLayout rom kind payload serial = before ++ (payload ++ (be 2 serial ++ after)) :=
  ⟨startMarker ++ [BitVec.ofNat 8 (payload.length + 5), kind],
    be 2 (crcWith rom (regionLayout kind payload serial)).toNat ++ terminator, rfl,
    by simp [frameLayout, regionLayout, startMarker, terminator]⟩

theorem geoPayload_length (satellites : Byte) (g : GeoOperands) : (geoPayload satellites g).length = 26 := by
  simp [geoPayload]

theorem shiftRight_mul_add {zone language : Nat} (fits : language < 16) : (zone * 16 + language) >>> 4 = zone := by
  rw [Nat.shiftRight_eq_div_pow]
  omega

theorem and_mul_add {zone language : Nat} (fits : language < 16) : (zone * 16 + language) &&& 0xF = language := by
  rw [Nat.and_two_pow_sub_one_eq_mod _ 4]
  omega

section Layouts

variable {before : List Byte} (after : List Byte) (length : before.length = 4)
include length

/-- The geolocation block reads back as the canonical operands (R71, R72, R182). -/
theorem decodeGeo_layout {satellites : Byte} {g : GeoOperands} (accepted : ∀ row ∈ g.checks, row.accepted) :
    decodeGeo (before ++ (geoPayload satellites g ++ after)) = canonGeo satellites g := by
  simp only [GeoOperands.checks, List.forall_mem_cons, accepted_int_iff, accepted_scaled_iff, Nat.cast_ofNat] at accepted
  obtain ⟨year, month, day, hour, minute, second, latitude, longitude, speed, courseStatus, mcc, mnc, lac, cellId, -⟩ :=
    accepted
  have satellitesFit := satellites.isLt
  simp (disch := omega) only [decodeGeo, canonGeo, geoPayload, singleton_eq_be, List.append_assoc, fieldAt_append _ _ length,
    fieldAt_skip_be, fieldAt_zero_be, Nat.reduceSub]

theorem decodeLogin_layout {identity : List Byte} {modelCode tz lang serial : Int}
    (wellFormed : (Instr.buildLogin identity modelCode tz lang serial).wellFormed) :
    decodeLogin (before ++ (loginPayload identity modelCode tz lang ++ (be 2 serial.toNat ++ after))) =
      .login (decimalValue identity % 2 ^ 64) modelCode.toNat (tz % 4096).toNat lang.toNat serial.toNat := by
  have accepted := accepted_of_wellFormed wellFormed
  simp only [Instr.checks, List.forall_mem_cons, accepted_int_iff, accepted_serial_iff] at accepted
  obtain ⟨model, zone, language, serialNumber, -⟩ := accepted
  simp (disch := omega) only [decodeLogin, loginPayload, List.append_assoc, fieldAt_append _ _ length, fieldAt_skip_be,
    fieldAt_zero_be, Nat.reduceSub, shiftRight_mul_add, and_mul_add]

theorem decodeHeartbeat_layout {terminalStatus : Int} {volts : Rat} {battery signal languagePort serial : Int}
    (wellFormed : (Instr.buildHeartbeat terminalStatus volts battery signal languagePort serial).wellFormed) :
    decodeHeartbeat (before ++ (heartbeatPayload terminalStatus volts battery signal languagePort
        ++ (be 2 serial.toNat ++ after))) =
      .heartbeat terminalStatus.toNat (trunc (volts * 100)).toNat battery.toNat signal.toNat languagePort.toNat
        serial.toNat := by
  have accepted := accepted_of_wellFormed wellFormed
  simp only [Instr.checks, List.forall_mem_cons, accepted_int_iff, accepted_scaled_iff, accepted_serial_iff,
    Nat.cast_ofNat] at accepted
  obtain ⟨terminalStatus, voltage, battery, signal, languagePort, serialNumber, -⟩ := accepted
  simp (disch := omega) only [decodeHeartbeat, heartbeatPayload, List.append_assoc, fieldAt_append _ _ length,
    fieldAt_skip_be, fieldAt_zero_be, Nat.reduceSub]

theorem decodeLocation_layout {satellites : Byte} {g : GeoOperands} {acc uploadMode reupload odometer serial : Int}
    (wellFormed : (Instr.buildLocation g acc uploadMode reupload odometer serial).wellFormed) :
    decodeLocation (before ++ (locationPayload satellites g acc uploadMode reupload odometer
        ++ (be 2 serial.toNat ++ after))) =
      .location (canonGeo satellites g) acc.toNat uploadMode.toNat reupload.toNat odometer.toNat serial.toNat := by
  obtain ⟨geo, accepted⟩ := List.forall_mem_append.mp (accepted_of_wellFormed wellFormed)
  simp only [List.forall_mem_cons, accepted_int_iff, accepted_serial_iff] at accepted
  obtain ⟨acc, uploadMode, reupload, odometer, serialNumber, -⟩ := accepted
  simp (disch := omega) only [decodeLocation, locationPayload, List.append_assoc, decodeGeo_layout _ length geo,
    fieldAt_append _ _ length, fieldAt_append _ _ (geoPayload_length _ _), fieldAt_skip_be, fieldAt_zero_be, Nat.reduceSub]

theorem decodeAlarm_layout {satellites : Byte} {g : GeoOperands}
    {terminalStatus battery signal alarmLanguage odometer serial : Int}
    (wellFormed : (Instr.buildAlarm g terminalStatus battery signal alarmLanguage odometer serial).wellFormed) :
    decodeAlarm (before ++ (alarmPayload satellites g terminalStatus battery signal alarmLanguage odometer
        ++ (be 2 serial.toNat ++ after))) =
      .alarm (canonGeo satellites g) terminalStatus.toNat battery.toNat signal.toNat alarmLanguage.toNat odometer.toNat
        serial.toNat := by
  obtain ⟨geo, accepted⟩ := List.forall_mem_append.mp (accepted_of_wellFormed wellFormed)
  simp only [List.forall_mem_cons, accepted_int_iff, accepted_serial_iff] at accepted
  obtain ⟨terminalStatus, battery, signal, alarmLanguage, odometer, serialNumber, -⟩ := accepted
  simp (disch := omega) only [decodeAlarm, alarmPayload, List.append_assoc, decodeGeo_layout _ length geo,
    fieldAt_append _ _ length, fieldAt_append _ _ (geoPayload_length _ _), fieldAt_skip_be, fieldAt_zero_be, Nat.reduceSub]

end Layouts

/-! ### The round trip -/

/-- The reading of a frame of each kind (R181); CHECKSUM has no frame. -/
def decoderOf : Instr → Option (List Byte → FrameFields)
  | .buildLogin _ _ _ _ _ => some decodeLogin
  | .buildHeartbeat _ _ _ _ _ _ => some decodeHeartbeat
  | .buildLocation _ _ _ _ _ _ => some decodeLocation
  | .buildAlarm _ _ _ _ _ _ _ => some decodeAlarm
  | .checksum _ => none

/-- A frame that passes the check is read by its kind byte, when it has that kind's size (R181). -/
theorem decodeFrame_of_kind {f : List Byte} {i : Instr} {read : List Byte → FrameFields} (ok : frameCheck f = .frameOk)
    (kind : f.getD 3 0 = i.selector) (length : f.length = payloadLength i + 10) (reader : decoderOf i = some read) :
    decodeFrame f = some (read f) := by
  cases i with
  | buildLogin | buildHeartbeat | buildLocation | buildAlarm =>
    cases reader
    rw [decodeFrame, ok, kind, length]
    rfl
  | checksum => cases reader

/-- A build's frame decodes to what its kind's decoder reads from the layout of a well-formed request. -/
theorem decodeFrame_of_layout {i : Instr} {s : State} {f payload : List Byte} {kind : Byte} {serial : Nat}
    {read : List Byte → FrameFields} {fields : FrameFields} (build : isBuild i) (rom : Memory.wf s)
    (ends : EndsWith s (exec i s) (.ok f))
    (answers : AnswersFrameOrFirstError i s (frameLayout s.rom kind payload serial)) (reader : decoderOf i = some read)
    (reads : i.wellFormed → ∀ before after : List Byte, before.length = 4 →
      read (before ++ (payload ++ (be 2 serial ++ after))) = fields) :
    decodeFrame f = some fields := by
  have ok := everyFramePassesTheFrameCheck i s f build rom ends
  obtain ⟨kindByte, -⟩ := frameMarkersAndKindByte i s f build ends
  obtain ⟨size, -⟩ := frameSizesAreFixedPerKind i s f build ends
  obtain ⟨wellFormed, isLayout⟩ := answers.of_frame ends
  obtain ⟨before, after, length, layout⟩ := frameLayout_eq s.rom kind payload serial
  rw [decodeFrame_of_kind ok kindByte size reader, isLayout, layout, reads wellFormed before after length]

/-- Settles O32: the frame is read by its own kind's decoder, field by field of its layout, and every operand fits its
field because a build that ends with a frame has accepted it. -/
theorem decodedFrameIsTheCanonicalRequest : Obligations.DecodedFrameIsTheCanonicalRequest := by
  intro i s f build rom ends
  cases i with
  | buildLogin =>
    exact ⟨decodeFrame_of_layout build rom ends (buildLoginAnswersFrameOrFirstError ..) rfl
      fun wellFormed _ after length => decodeLogin_layout after length wellFormed, rfl⟩
  | buildHeartbeat =>
    exact ⟨decodeFrame_of_layout build rom ends (buildHeartbeatAnswersFrameOrFirstError ..) rfl
      fun wellFormed _ after length => decodeHeartbeat_layout after length wellFormed, rfl⟩
  | buildLocation =>
    exact ⟨decodeFrame_of_layout build rom ends (buildLocationAnswersFrameOrFirstError ..) rfl
      fun wellFormed _ after length => decodeLocation_layout after length wellFormed, rfl⟩
  | buildAlarm =>
    exact ⟨decodeFrame_of_layout build rom ends (buildAlarmAnswersFrameOrFirstError ..) rfl
      fun wellFormed _ after length => decodeAlarm_layout after length wellFormed, rfl⟩
  | checksum => cases build

end Sys2Proof.Machine

/-! Errors and the hook: a reserved selector's answer (R61, R206), which of its two responses a build ends with (R205, R207),
and what offering the hook changes (R216). -/

namespace Sys2Proof.Machine

/-! ### A reserved selector -/

/-- A selector outside R60's five is assigned to no format. -/
theorem formatOf_eq_none_of_notMem {op : Byte} (reserved : op ∉ [0x01#8, 0x13#8, 0x22#8, 0x26#8, 0xC0#8]) :
    formatOf op = none := by
  refine Option.eq_none_iff_forall_ne_some.mpr fun f format => reserved ?_
  rw [eq_selector_of_formatOf format]
  cases f with
  | chk | login | loc | alm | hb => simp [Format.selector]

theorem answer_of_reserved_selector {s : State} {op : Byte} {operands : List Operand}
    (reserved : op ∉ [0x01#8, 0x13#8, 0x22#8, 0x26#8, 0xC0#8]) (request : s.req = some ⟨op, operands⟩) :
    answer s = .next (finish (.err (.unsupportedOperation op)) s) :=
  answer_of_reserved request (decode_of_formatOf_none (formatOf_eq_none_of_notMem reserved))

/-- An answer to an accepted request is one to the state that accepted it: both have the same responses, ROM, parameters
and events to come. -/
theorem Answers.of_accept {s t : State} {r : Request} {x : Response} (h : Answers (accept r s) t x) : Answers s t x :=
  ⟨h.responses, h.status, h.c, h.out, h.req, h.rom, h.params, h.inbox⟩

/-- Settles O41: the step accepts the request, and its answer raises the error, which the hook does not see. -/
theorem reservedSelectorIsUnsupported : Obligations.ReservedSelectorIsUnsupported := by
  intro op operands s rest reserved waiting inbox
  have answered := answer_of_reserved_selector reserved (accept_req { s with inbox := rest } ⟨op, operands⟩)
  exact ⟨_, (step_of_next_request waiting inbox).trans answered, (answers_finish _ _ _).of_accept, rfl⟩

/-! ### The one response of a build -/

theorem EndsWith.unique {s : State} {execution : Result} {r r' : Response} (h : EndsWith s execution r)
    (h' : EndsWith s execution r') : r = r' := by
  obtain ⟨t, next, answers⟩ := h'
  exact h.eq_of_next next answers

theorem AnswersFrameOrFirstError.ends_with_frame {i : Instr} {s : State} {f : List Byte}
    (answers : AnswersFrameOrFirstError i s f) (wellFormed : i.wellFormed) : EndsWith s (exec i s) (.ok f) := by
  obtain ⟨t, next, ends, -⟩ := answers.1 wellFormed
  exact ⟨t, next, ends⟩

theorem AnswersFrameOrFirstError.ends_with_firstError {i : Instr} {s : State} {f : List Byte} {e : Error}
    (answers : AnswersFrameOrFirstError i s f) (first : i.firstError = some e) : EndsWith s (exec i s) (.err e) := by
  obtain ⟨t, next, ends, -⟩ := answers.2 e first
  exact ⟨t, next, ends⟩

/-- The four builds, said once. -/
theorem build_answersFrameOrFirstError {i : Instr} (s : State) (build : isBuild i) :
    ∃ f, AnswersFrameOrFirstError i s f := by
  cases i with
  | buildLogin => exact ⟨_, buildLoginAnswersFrameOrFirstError ..⟩
  | buildHeartbeat => exact ⟨_, buildHeartbeatAnswersFrameOrFirstError ..⟩
  | buildLocation => exact ⟨_, buildLocationAnswersFrameOrFirstError ..⟩
  | buildAlarm => exact ⟨_, buildAlarmAnswersFrameOrFirstError ..⟩
  | checksum => cases build

theorem not_wellFormed_iff {i : Instr} : ¬ i.wellFormed ↔ ∃ e, i.firstError = some e := by
  rw [Instr.wellFormed, Option.isNone_iff_eq_none]
  exact Option.ne_none_iff_exists'

/-- Settles O22: a well-formed build ends with its frame, any other with its first error, and none with both. -/
theorem buildSucceedsExactlyWhenWellFormed : Obligations.BuildSucceedsExactlyWhenWellFormed := by
  intro i s build
  obtain ⟨f, answers⟩ := build_answersFrameOrFirstError s build
  refine ⟨⟨fun ⟨_, ends⟩ => (answers.of_frame ends).1, fun wellFormed => ⟨f, answers.ends_with_frame wellFormed⟩⟩, ?_, ?_⟩
  · rintro ⟨e, failed⟩ wellFormed
    cases failed.unique (answers.ends_with_frame wellFormed)
  · intro rejected
    obtain ⟨e, first⟩ := not_wellFormed_iff.mp rejected
    exact ⟨e, answers.ends_with_firstError first⟩

/-! ### The priority of errors -/

/-- CHECKSUM has no error (R100), so only a build has a first one. -/
theorem isBuild_of_firstError {i : Instr} {e : Error} (first : i.firstError = some e) : isBuild i := by
  cases i with
  | buildLogin | buildHeartbeat | buildLocation | buildAlarm => rfl
  | checksum => cases first

theorem exec_ends_with_firstError {i : Instr} {e : Error} (s : State) (first : i.firstError = some e) :
    EndsWith s (exec i s) (.err e) := by
  obtain ⟨f, answers⟩ := build_answersFrameOrFirstError s (isBuild_of_firstError first)
  exact answers.ends_with_firstError first

theorem frameRegion_of_payload_error (kind : Byte) (e : Error) (serial : Int) :
    frameRegion kind (.error e) serial = .error e := rfl

/-- The serial number is checked before the length (R120). -/
theorem frameRegion_of_serial_outside (kind : Byte) (payload : List Byte) {serial : Int}
    (outside : serial < 0 ∨ serial > 65535) :
    frameRegion kind (.ok payload) serial = .error (.fieldOutOfRange .serial 0 65535) := by
  have failed : serialField serial = .error (.fieldOutOfRange .serial 0 65535) :=
    uintField_of_outside 2 .serial outside
  rw [frameRegion, ok_bind, failed, error_bind]

/-- Settles O23, a lemma for each place in the order of R207. -/
theorem firstErrorInPriorityOrderIsReported : Obligations.FirstErrorInPriorityOrderIsReported := by
  refine ⟨fun op operands s reserved inbox request => ?_, fun i s e first => ?_, frameRegion_of_payload_error,
    fun kind payload _ => frameRegion_of_serial_outside kind payload⟩
  · have noReset : s.inbox.head? ≠ some .reset := by simp [inbox]
    rw [step_of_request_in_progress request noReset]
    exact ⟨_, answer_of_reserved_selector reserved request, answers_finish s _ _⟩
  · have ends := exec_ends_with_firstError s first
    exact ⟨ends, fun _ ends' => ends'.unique ends⟩

/-! ### The hook -/

/-- Two states with the same ROM, satellite byte and span bound conclude an operation with the same response and show the
hook the same events; whether they offer it makes no difference to either. -/
theorem exec_conclude_congr {i : Instr} {s s' t : State} (rom : s.rom = s'.rom)
    (satellites : s.params.satellites = s'.params.satellites) (maxSpan : s.params.maxSpan = s'.params.maxSpan)
    (h : exec i s = .next t) :
    ∃ r events, t = conclude r events s ∧ exec i s' = .next (conclude r events s') := by
  rcases exec_next_cases h with ⟨x, region, rfl⟩ | ⟨span, rfl, within, rfl⟩
  · rw [rom]
    exact ⟨_, _, rfl, exec_of_regionOf (satellites ▸ region)⟩
  · rw [rom]
    exact ⟨_, _, rfl, exec_checksum_within_bound (spanBoundExceeded_congr maxSpan span ▸ within)⟩

/-- Settles O49: both runs conclude alike, and `conclude` reads the hook for the trace alone. -/
theorem hookObservesOnly : Obligations.HookObservesOnly := by
  intro i s t offered h
  obtain ⟨r, events, rfl, run⟩ :=
    exec_conclude_congr (s := s) (s' := { s with params := { s.params with hook := offered } }) rfl rfl rfl h
  exact ⟨prefix_conclude_trace r events s, conclude_trace_of_hook_off r events, _, run, rfl⟩

end Sys2Proof.Machine

/-! Reset and the idle block (R230, R231, logs 10 and 11), and that no step meets a transient without a value (I3). -/

namespace Sys2Proof.Machine

/-! ### No fault -/

theorem EndsWith.ne_fault {s : State} {execution : Result} {r : Response} (h : EndsWith s execution r) (x : Fault) :
    execution ≠ .fault x := by
  obtain ⟨t, rfl, -⟩ := h
  exact nofun

/-- With a request latched, answering it never reads a transient that has no value: it ends with a response or refuses. -/
theorem answer_ne_fault {s : State} {r : Request} (request : s.req = some r) (x : Fault) : answer s ≠ .fault x := by
  rcases answer_cases s r request with ⟨_, ends⟩ | ⟨_, refused, -⟩
  · exact ends.ne_fault x
  · rw [refused]
    exact nofun

/-- Settles O46, along what a step can do: it answers only a request that `REQ` holds, in progress or just accepted. -/
theorem noStepReadsAValueThatIsNotThere : Obligations.NoStepReadsAValueThatIsNotThere := by
  intro s x
  rcases step_cases s with ⟨_, -, resets⟩ | ⟨-, -, waits⟩ | ⟨r, _, -, -, answers⟩ | ⟨_, request, -, answers⟩
  · rw [resets]
    exact nofun
  · rw [waits]
    exact nofun
  · rw [answers]
    exact answer_ne_fault (accept_req _ r) x
  · rw [answers]
    exact answer_ne_fault request x

/-! ### Reset -/

theorem reset_idle : Idle State.reset := ⟨reset_c, reset_out, reset_req⟩

theorem applyReset_idle (s : State) : Idle (applyReset s) := ⟨applyReset_c s, applyReset_out s, applyReset_req s⟩

/-- A reset at the head of the events is taken whether or not a request is in progress (R230, log 11). -/
theorem step_of_reset {s : State} {rest : List HostEvent} (inbox : s.inbox = .reset :: rest) :
    step s = .next (applyReset { s with inbox := rest }) := by
  simp only [step, inbox]

/-- Settles O43: the fields of the state after reset, and the ones that `applyReset` clears and keeps. -/
theorem resetStateAndResetEvent : Obligations.ResetStateAndResetEvent := by
  refine ⟨⟨reset_rom, reset_idle, reset_status, reset_satellites⟩, fun s rest inbox => ?_⟩
  exact ⟨_, step_of_reset inbox, applyReset_rom _, applyReset_params _, applyReset_idle _, applyReset_status _,
    applyReset_responses _, applyReset_inbox _⟩

/-- Settles O50: no response has been returned and no status is pending, so those two clauses speak of nothing yet. -/
theorem resetSatisfiesTheInvariant : Obligations.ResetSatisfiesTheInvariant where
  rom := reset_memory_wf
  c := reset_c
  out := reset_out
  responses := by
    rw [reset_responses]
    exact nofun
  status := by
    rw [reset_status]
    exact nofun

/-! ### The idle block -/

/-- Settles O44: `acceptNext` finds no request to accept. -/
theorem idleBlockWaits : Obligations.IdleBlockWaits := by
  intro s waiting inbox
  simp only [step, acceptNext, inbox, waiting]

end Sys2Proof.Machine
